-- ==== Sys2Proof/Word.lean ====
section
/-! DEFINITION. The words of CORE: every operand, result and state word is a bit vector of a stated width,
bit 0 least significant (spec/00_scope.md R9). -/

namespace Sys2Proof

/-- A 32-bit word: operands `A`, `B`, `C`, results, `RNG`, and the elements of `sine2t` and `pitcht` (R9, R23). -/
abbrev Word := BitVec 32

/-- A 16-bit word: the elements of `sinet`, `windowt`, `expt` and `logt` (R9, R23). -/
abbrev Half := BitVec 16

/-- `trunc32(x)`: the word whose unsigned value is `x mod 2^32`, for negative `x` too (R9). -/
abbrev trunc32 (x : Int) : Word := BitVec.ofInt 32 x

end Sys2Proof
end

