-- ==== Sys2Proof/Config.lean ====
section
/-! DEFINITION. What an instance of CORE fixes: the numeric parameters of spec/00_scope.md R6 and R7, the six constant arrays of
R8 as a record, and the values that the spec leaves open, as opaque constants without a body. -/

namespace Sys2Proof.Config

/-- `FRAC_BITS`: a fixed-point word `v` stands for `s32(v) / 2^21` (R6). -/
abbrev fracBits : Nat := 21
/-- `PITCH_OFFSET`: the pitch table index of pitch zero (R6). -/
abbrev pitchOffset : Int := 128
/-- `SAT_STD`: saturation width of MTOF (R6). -/
abbrev satStd : Nat := 28
/-- `SAT_EXT`: saturation width of MTOFX (R6). -/
abbrev satExt : Nat := 29
/-- `MAXW` = 2^31 - 1, the document's `MAX` in `MAX-pf` (R7, D8). -/
abbrev maxw : Word := 0x7FFFFFFF
/-- `LOGT_SHIFT` (R7, D20). -/
abbrev logtShift : Nat := 5
/-- `LOG2_ZERO`, the sentinel LOG2 returns for 0 (R7, D21). -/
abbrev log2Zero : Word := 0x80000000
/-- `LCG_A`, the generator's multiplier (R7, R200, D24). -/
abbrev lcgA : Word := 196314165
/-- `LCG_C`, the generator's increment (R7, R200, D24). -/
abbrev lcgC : Word := 907633515
/-- `SEED0`, the generator word after reset (R7, R231, D24). -/
abbrev seed0 : Word := 22222

/-- The `k`-th unspecified result word of a table read while `TV = 0` (R16: "some 32-bit word that this spec does not
determine"; R236). A FREE VALUE: it has no body, so nothing can be proved of it. DESIGN CHOICE (logs 4, 6), safe. -/
opaque freeWord : Nat → Word

/-- FL2F's result for an operand whose result is unspecified (R193). A FREE VALUE without a body; a function of the operand,
because the result of every operation but RAND is one (R56(c), R242). DESIGN CHOICE (log 5), safe. -/
opaque freeFloat : Word → Word

/-- The contents of `TAB_EXPT` in the default configuration: the spec gives none (`OPEN`: R8, R127, D17). A FREE VALUE
without a body. DESIGN CHOICE (log 9), safe. -/
opaque openExpt : Nat → Half

end Sys2Proof.Config

namespace Sys2Proof

/-- The six constant arrays `TAB_*` that INIT writes into the tables (R8). Their lengths are the types': a record of other
lengths, which would break invariant (a) of R123 to R128, cannot be built (R129). The lengths are R7's decided sizes: SINETSIZE + 1,
SINE2TSIZE + 1, WINDOWSIZE + 1, PITCHTSIZE, EXPTSIZE, LOGTSIZE with SINETSIZE = WINDOWSIZE = 1024 and SINE2TSIZE = 4096 (log 10). -/
structure TableConfig where
  /-- `TAB_SINET`, signed 16-bit (R123). -/
  tabSinet : Vector Half 1025
  /-- `TAB_SINE2T`, signed 32-bit (R124). -/
  tabSine2t : Vector Word 4097
  /-- `TAB_WINDOWT`, signed 16-bit (R125). -/
  tabWindowt : Vector Half 1025
  /-- `TAB_PITCHT`, unsigned 32-bit, no guard sample (R126). -/
  tabPitcht : Vector Word 257
  /-- `TAB_EXPT`, unsigned 16-bit (R127). -/
  tabExpt : Vector Half 256
  /-- `TAB_LOGT`, unsigned 16-bit (R128). -/
  tabLogt : Vector Half 256
deriving DecidableEq, Repr

end Sys2Proof
end

