-- ==== Sys2Proof/Syntax.lean ====
section
/-! DEFINITION. The commands of CORE as syntax: the packet of four words (spec/30_encoding.md R70), the fourteen operations
(R72, spec/00_scope.md R2) and what a requester presents (R74, spec/70_reset_and_hazards.md R230). -/

namespace Sys2Proof

/-- One operation of CORE with the operand words it uses, in the order `A`, `B`, `C` (R71, R72, R78). The words a command
carries but its operation ignores are not part of the instruction (R71; log 15). -/
inductive Instr where
  /-- RMUL, rounding multiply (R101). -/
  | rmul (a b : Word)
  /-- RMLA, rounding multiply-accumulate; `c` is the accumulator (R102). -/
  | rmla (a b c : Word)
  /-- RMLS, rounding multiply-subtract; `c` is what the product is subtracted from (R103). -/
  | rmls (a b c : Word)
  /-- INIT, initialise tables (R121). -/
  | init
  /-- SINE, sine interpolation (R141). -/
  | sine (a : Word)
  /-- WINDOW, window interpolation (R142). -/
  | window (a : Word)
  /-- MTOF, standard pitch to frequency (R161). -/
  | mtof (a : Word)
  /-- MTOFX, extended pitch to frequency (R162). -/
  | mtofx (a : Word)
  /-- LOG2, fast base-2 logarithm (R181). -/
  | log2 (a : Word)
  /-- I2F, integer to fixed point (R191). -/
  | i2f (a : Word)
  /-- F2I, fixed point to integer (R192). -/
  | f2i (a : Word)
  /-- FL2F, float to fixed point (R193). -/
  | fl2f (a : Word)
  /-- RAND, next random number (R201). -/
  | rand
  /-- SEED, set the generator state (R202). -/
  | seed (a : Word)
deriving DecidableEq, Repr

/-- A command packet: four 32-bit words presented together (R70). -/
structure Packet where
  /-- `W0`: `ZERO`, `GRP`, `FN`. -/
  w0 : Word
  /-- `W1` = operand `A`. -/
  w1 : Word
  /-- `W2` = operand `B`. -/
  w2 : Word
  /-- `W3` = operand `C`. -/
  w3 : Word
deriving DecidableEq, Repr

/-- `ZERO` = `W0[31:8]` (R70). -/
def Packet.zeroField (p : Packet) : BitVec 24 := p.w0.extractLsb' 8 24
/-- `GRP` = `W0[7:4]` (R70). -/
def Packet.grp (p : Packet) : BitVec 4 := p.w0.extractLsb' 4 4
/-- `FN` = `W0[3:0]` (R70). -/
def Packet.fn (p : Packet) : BitVec 4 := p.w0.extractLsb' 0 4

/-- Why a command word is reserved (R73, R76). -/
inductive Reserved where
  /-- `W0[31:8]` is not 0. -/
  | zeroField
  /-- `W0[7:0]` is not one of the fourteen opcodes. -/
  | opcode
deriving DecidableEq, Repr

/-- What the requester presents, in order: a command, or a reset, which is "an event in the same sequence as the commands"
and no command (R230; log 12). -/
inductive Request where
  | command (p : Packet)
  | reset
deriving DecidableEq, Repr

/-- What CORE has last answered (R74; logs 2, 20). -/
inductive Response where
  /-- Nothing since reset. -/
  | none
  /-- A completion that carries no data: INIT and SEED. -/
  | completion
  /-- One 32-bit result word `R`. -/
  | result (r : Word)
deriving DecidableEq, Repr

end Sys2Proof
end

