-- ==== Sys2Proof/WellFormed.lean ====
section
/-! DEFINITION. The checks: which packets spell a command (spec/30_encoding.md R72, R73, R76), and which constant arrays make
an instance of CORE (spec/42_table_init.md R123 to R128, spec/60_exceptions.md R214). An `Instr` needs no check: every value of
every operand word is allowed (R71, R211). -/

namespace Sys2Proof

/-- The fourteen opcodes `OP = {GRP, FN}` (R72). -/
def definedOpcodes : List (BitVec 8) :=
  [0x10, 0x11, 0x12, 0x20, 0x30, 0x31, 0x40, 0x41, 0x50, 0x60, 0x61, 0x62, 0x70, 0x71]

/-- `ZERO` must be 0 (R70). -/
def Packet.zeroFieldOk (p : Packet) : Bool := p.zeroField == 0

/-- `OP = W0[7:0]` is one of the fourteen opcodes (R72). -/
def Packet.opcodeOk (p : Packet) : Bool := definedOpcodes.contains (p.w0.extractLsb' 0 8)

/-- The packet spells a command: it is not reserved (R73, R76). -/
def Packet.wellFormed (p : Packet) : Bool := p.zeroFieldOk && p.opcodeOk

namespace TableConfig

/-- Invariant (c) of R123: the guard sample of `TAB_SINET` equals sample 0. -/
abbrev GuardSinet (c : TableConfig) : Prop := c.tabSinet[1024] = c.tabSinet[0]

/-- Invariant (c) of R124: the guard sample of `TAB_SINE2T` equals sample 0. -/
abbrev GuardSine2t (c : TableConfig) : Prop := c.tabSine2t[4096] = c.tabSine2t[0]

/-- Invariant (c) of R125: the guard sample of `TAB_WINDOWT` equals sample 0. -/
abbrev GuardWindowt (c : TableConfig) : Prop := c.tabWindowt[1024] = c.tabWindowt[0]

/-- Invariant (c) of R126: every entry of `TAB_PITCHT` is at most `MAXW`. -/
abbrev PitchBounded (c : TableConfig) : Prop := ∀ i : Fin 257, c.tabPitcht[i.val] ≤ Config.maxw

/-- Invariant (d) of R126: `TAB_PITCHT` does not decrease. -/
abbrev PitchNondecreasing (c : TableConfig) : Prop :=
  ∀ i : Fin 256, c.tabPitcht[i.val] ≤ c.tabPitcht[i.val + 1]

/-- Invariant (c) of R128: `TAB_LOGT[0] = 0`. -/
abbrev LogZero (c : TableConfig) : Prop := c.tabLogt[0] = 0

/-- Invariant (d) of R128: `TAB_LOGT` does not decrease. -/
abbrev LogNondecreasing (c : TableConfig) : Prop :=
  ∀ i : Fin 255, c.tabLogt[i.val] ≤ c.tabLogt[i.val + 1]

/-- The arrays make an instance of CORE (R214). Invariants (a) and (b) hold by the types; (d) of R125 and (e) of R126 name no
number (log 22). -/
abbrev Valid (c : TableConfig) : Prop :=
  c.GuardSinet ∧ c.GuardSine2t ∧ c.GuardWindowt ∧ c.PitchBounded ∧ c.PitchNondecreasing ∧ c.LogZero ∧ c.LogNondecreasing

end TableConfig

end Sys2Proof
end

