-- ==== Sys2Proof/Decode.lean ====
section
/-! DEFINITION. Decoding a packet (spec/30_encoding.md R73, R76), total and refusing by name, and the encoder from the same
opcode map (R72). -/

namespace Sys2Proof

/-- The opcode map of R72 by `GRP` and `FN`: group `n` holds the operations of the document's section 4.`n`. -/
def opcodeMap (grp fn : Nat) (a b c : Word) : Option Instr :=
  match grp, fn with
  | 1, 0 => some (.rmul a b)
  | 1, 1 => some (.rmla a b c)
  | 1, 2 => some (.rmls a b c)
  | 2, 0 => some .init
  | 3, 0 => some (.sine a)
  | 3, 1 => some (.window a)
  | 4, 0 => some (.mtof a)
  | 4, 1 => some (.mtofx a)
  | 5, 0 => some (.log2 a)
  | 6, 0 => some (.i2f a)
  | 6, 1 => some (.f2i a)
  | 6, 2 => some (.fl2f a)
  | 7, 0 => some .rand
  | 7, 1 => some (.seed a)
  | _, _ => none

/-- Decoding, "a total function of the four words"; no state changes it (R73). -/
def decode (p : Packet) : Except Reserved Instr :=
  if p.zeroField = 0 then
    match opcodeMap p.grp.toNat p.fn.toNat p.w1 p.w2 p.w3 with
    | some i => .ok i
    | none => .error .opcode
  else .error .zeroField

/-- `W0` of an operation (R72). -/
def Instr.opcode : Instr → Word
  | .rmul _ _ => 0x00000010
  | .rmla _ _ _ => 0x00000011
  | .rmls _ _ _ => 0x00000012
  | .init => 0x00000020
  | .sine _ => 0x00000030
  | .window _ => 0x00000031
  | .mtof _ => 0x00000040
  | .mtofx _ => 0x00000041
  | .log2 _ => 0x00000050
  | .i2f _ => 0x00000060
  | .f2i _ => 0x00000061
  | .fl2f _ => 0x00000062
  | .rand => 0x00000070
  | .seed _ => 0x00000071

/-- The packet of an instruction; the operand words it does not use are written as 0 (R71). -/
def encode (i : Instr) : Packet :=
  match i with
  | .rmul a b => ⟨i.opcode, a, b, 0⟩
  | .rmla a b c => ⟨i.opcode, a, b, c⟩
  | .rmls a b c => ⟨i.opcode, a, b, c⟩
  | .init => ⟨i.opcode, 0, 0, 0⟩
  | .sine a => ⟨i.opcode, a, 0, 0⟩
  | .window a => ⟨i.opcode, a, 0, 0⟩
  | .mtof a => ⟨i.opcode, a, 0, 0⟩
  | .mtofx a => ⟨i.opcode, a, 0, 0⟩
  | .log2 a => ⟨i.opcode, a, 0, 0⟩
  | .i2f a => ⟨i.opcode, a, 0, 0⟩
  | .f2i a => ⟨i.opcode, a, 0, 0⟩
  | .fl2f a => ⟨i.opcode, a, 0, 0⟩
  | .rand => ⟨i.opcode, 0, 0, 0⟩
  | .seed a => ⟨i.opcode, a, 0, 0⟩

/-- How many of the operand words `A`, `B`, `C` the operation uses, in that order (the column "operands used" of R72). -/
def Instr.operandsUsed : Instr → Nat
  | .rmul _ _ => 2
  | .rmla _ _ _ => 3
  | .rmls _ _ _ => 3
  | .init => 0
  | .sine _ => 1
  | .window _ => 1
  | .mtof _ => 1
  | .mtofx _ => 1
  | .log2 _ => 1
  | .i2f _ => 1
  | .f2i _ => 1
  | .fl2f _ => 1
  | .rand => 0
  | .seed _ => 1

/-- The packet with its operand words after the first `n` set to 0, as an assembler writes the words that are not used (R71). -/
def Packet.keep (n : Nat) (p : Packet) : Packet :=
  ⟨p.w0, if 1 ≤ n then p.w1 else 0, if 2 ≤ n then p.w2 else 0, if 3 ≤ n then p.w3 else 0⟩

/-- The packet of the 128-bit number `W3 W2 W1 W0` with `W0` in the low bits (R70). -/
def Packet.ofNat (w : Nat) : Packet :=
  ⟨BitVec.ofNat 32 w, BitVec.ofNat 32 (w / 2 ^ 32), BitVec.ofNat 32 (w / 2 ^ 64), BitVec.ofNat 32 (w / 2 ^ 96)⟩

/-- The 128-bit number of a packet (R70). -/
def Packet.toNat (p : Packet) : Nat :=
  p.w0.toNat + 2 ^ 32 * p.w1.toNat + 2 ^ 64 * p.w2.toNat + 2 ^ 96 * p.w3.toNat

/-- The packet whose low `nbits` bits are `w`'s and whose other bits are 0 (log 18). -/
def tableWordPacket (nbits w : Nat) : Packet := Packet.ofNat (w % 2 ^ nbits)

/-- What the decoder reads from an instruction written as one number, as spec/opcode_table.json numbers it (log 18). -/
def decodeTableWord (nbits w : Nat) : Option Instr :=
  match decode (tableWordPacket nbits w) with
  | .ok i => some i
  | .error _ => none

end Sys2Proof
end

