-- ==== Sys2Proof/Machine/Operands.lean ====
section
/-! DEFINITION. The notation of spec/00_scope.md R10 to R14 as functions on words, and every form in which an operation cuts
or widens an operand: phases (R140 to R142), pitches (R160, R163), logarithm inputs (R181), floats (R196) and table elements
(spec/20_memory.md R57). Arithmetic is on unbounded integers and is narrowed at the end (R9). -/

namespace Sys2Proof.Machine

/-- `lsl32(v, n)`: bits shifted out at the top are lost (R11). -/
def lsl32 (v : Word) (n : Nat) : Word := v <<< n

/-- `asr32(v, n)` = `trunc32(floor(s32(v) / 2^n))` (R11). -/
def asr32 (v : Word) (n : Nat) : Word := v.sshiftRight n

/-- `lsr32(v, n)` = `trunc32(floor(u32(v) / 2^n))` (R11). -/
def lsr32 (v : Word) (n : Nat) : Word := v >>> n

/-- `ssat_N(v)`: `v` clamped to the signed `N`-bit range (R12). -/
def ssat (n : Nat) (v : Word) : Word := trunc32 (min (max v.toInt (-2 ^ (n - 1))) (2 ^ (n - 1) - 1))

/-- `hi32r(x)` = `trunc32(floor((x + 2^31) / 2^32))`: the high word rounded to nearest, a tie upward (R13). -/
def hi32r (x : Int) : Word := trunc32 ((x + 2 ^ 31) / 2 ^ 32)

/-- `msb(v)`: the position of the highest set bit, `floor(log2(u32(v)))`; no rule evaluates it at 0 (R14). -/
def msb (v : Word) : Nat := Nat.log2 v.toNat

/-- SINE's table index `pi = A[31:20]` (R141). -/
def sineIndex (a : Word) : Int := (a.extractLsb 31 20).toNat
/-- SINE's weight `pf = lsl32(zext_32(A[19:0]), 11)` (R141). -/
def sineWeight (a : Word) : Word := lsl32 ((a.extractLsb 19 0).setWidth 32) 11

/-- WINDOW's table index `pi = A[31:22]` (R142). -/
def windowIndex (a : Word) : Int := (a.extractLsb 31 22).toNat
/-- WINDOW's weight `pf = lsl32(zext_32(A[21:0]), 9)` (R142). -/
def windowWeight (a : Word) : Word := lsl32 ((a.extractLsb 21 0).setWidth 32) 9
/-- A `windowt` element enters as `lsl32(sext_32(e), 16)` (R57, R142). -/
def widenWindow (e : Half) : Word := lsl32 (e.signExtend 32) 16

/-- The table index of a saturated pitch, `idx = 128 + s32(asr32(p, 21))` (R163). -/
def pitchIndex (p : Word) : Int := Config.pitchOffset + (asr32 p Config.fracBits).toInt
/-- The weight of a saturated pitch, `pf = lsl32(zext_32(p[20:0]), 10)` (R163). -/
def pitchWeight (p : Word) : Word := lsl32 ((p.extractLsb 20 0).setWidth 32) 10

/-- LOG2's mantissa interval: `m = w[30:23]` with `w = lsl32(A, 31 - n)` and `n = msb(A)` (R181). -/
def logMantissa (a : Word) : Nat := ((lsl32 a (31 - msb a)).extractLsb 30 23).toNat
/-- LOG2's value from the octave `n` and the table element: `trunc32(n * 2^21 + u16(e) * 2^5)` (R57, R181). -/
def logValue (n : Nat) (e : Half) : Word :=
  BitVec.ofNat 32 (2 ^ Config.fracBits * n + 2 ^ Config.logtShift * e.toNat)

/-- The fields of a binary32 pattern (R196; log 16). -/
structure Binary32 where
  /-- `s = A[31]`. -/
  sign : Bool
  /-- The biased exponent `e = A[30:23]`. -/
  exponent : Nat
  /-- `f = A[22:0]`. -/
  fraction : Nat
deriving DecidableEq, Repr

/-- The pattern in operand word `a` (R193, R196). -/
def binary32Of (a : Word) : Binary32 where
  sign := a.getLsbD 31
  exponent := (a.extractLsb 30 23).toNat
  fraction := (a.extractLsb 22 0).toNat

/-- `floor(mag * 2^21)`, with `mag = f * 2^(-149)` when `e = 0` and `(2^23 + f) * 2^(e - 150)` otherwise (R193); the fraction of
the exact rational is dropped by the natural division. -/
def scaledMagnitude (x : Binary32) : Nat :=
  if x.exponent = 0 then x.fraction * 2 ^ Config.fracBits / 2 ^ 149
  else (2 ^ 23 + x.fraction) * 2 ^ x.exponent * 2 ^ Config.fracBits / 2 ^ 150

/-- `v = -t if s = 1 else t`: rounding is toward zero (R193). -/
def scaledValue (x : Binary32) : Int := if x.sign then -(scaledMagnitude x : Int) else scaledMagnitude x

end Sys2Proof.Machine
end

