-- ==== Sys2Proof/Machine/Flags.lean ====
section
/-! DEFINITION. CORE has no flag, condition code or predicate: "No operation sets a carry, overflow, saturation or error flag,
and none reads one" (spec/10_state.md R22). What stands here are the conditions that single operations test inside
themselves (spec/60_exceptions.md R223): the zero test of LOG2 and the range tests of FL2F. They leave no trace in State. -/

namespace Sys2Proof.Machine

/-- LOG2's zero test, `u32(A) = 0` (R181). -/
def isZero (a : Word) : Bool := a == 0

/-- FL2F's range test, `-2^31 <= v <= 2^31 - 1` (R193). -/
def fitsWord (v : Int) : Bool := decide (-2 ^ 31 ≤ v ∧ v ≤ 2 ^ 31 - 1)

/-- FL2F's test for a finite number: the exponent field is not 255 (R193, R196). -/
def Binary32.isFinite (x : Binary32) : Bool := x.exponent != 255

end Sys2Proof.Machine
end

