-- ==== Sys2Proof/Machine/Reference.lean ====
section
/-! DEFINITION. The reference contents of the constant arrays (spec/42_table_init.md R123 to R126 and R128, values listed in
spec/97_reference_tables.md): the spec's default configuration. They are the spec's own choice and not claimed to be the
originating firmware's tables. `TAB_EXPT` has no reference: it is an opaque array (R127). DESIGN CHOICE (logs 8, 9). -/

namespace Sys2Proof.Machine.Reference

def sinetListed0 : List Nat := [
  0, 201, 402, 603, 804, 1005, 1206, 1406, 1607, 1808,
  2009, 2209, 2410, 2610, 2811, 3011, 3211, 3411, 3611, 3811,
  4011, 4210, 4409, 4608, 4807, 5006, 5205, 5403, 5601, 5799,
  5997, 6195, 6392, 6589, 6786, 6982, 7179, 7375, 7571, 7766,
  7961, 8156, 8351, 8545, 8739, 8932, 9126, 9319, 9511, 9703,
  9895, 10087, 10278, 10469, 10659, 10849, 11038, 11227, 11416, 11604,
  11792, 11980, 12166, 12353]
def sinetListed1 : List Nat := [
  12539, 12724, 12909, 13094, 13278, 13462, 13645, 13827, 14009, 14191,
  14372, 14552, 14732, 14911, 15090, 15268, 15446, 15623, 15799, 15975,
  16150, 16325, 16499, 16672, 16845, 17017, 17189, 17360, 17530, 17699,
  17868, 18036, 18204, 18371, 18537, 18702, 18867, 19031, 19194, 19357,
  19519, 19680, 19840, 20000, 20159, 20317, 20474, 20631, 20787, 20942,
  21096, 21249, 21402, 21554, 21705, 21855, 22004, 22153, 22301, 22448,
  22594, 22739, 22883, 23027]
def sinetListed2 : List Nat := [
  23169, 23311, 23452, 23592, 23731, 23869, 24006, 24143, 24278, 24413,
  24546, 24679, 24811, 24942, 25072, 25201, 25329, 25456, 25582, 25707,
  25831, 25954, 26077, 26198, 26318, 26437, 26556, 26673, 26789, 26905,
  27019, 27132, 27244, 27355, 27466, 27575, 27683, 27790, 27896, 28001,
  28105, 28208, 28309, 28410, 28510, 28608, 28706, 28802, 28897, 28992,
  29085, 29177, 29268, 29358, 29446, 29534, 29621, 29706, 29790, 29873,
  29955, 30036, 30116, 30195]
def sinetListed3 : List Nat := [
  30272, 30349, 30424, 30498, 30571, 30643, 30713, 30783, 30851, 30918,
  30984, 31049, 31113, 31175, 31236, 31297, 31356, 31413, 31470, 31525,
  31580, 31633, 31684, 31735, 31785, 31833, 31880, 31926, 31970, 32014,
  32056, 32097, 32137, 32176, 32213, 32249, 32284, 32318, 32350, 32382,
  32412, 32441, 32468, 32495, 32520, 32544, 32567, 32588, 32609, 32628,
  32646, 32662, 32678, 32692, 32705, 32717, 32727, 32736, 32744, 32751,
  32757, 32761, 32764, 32766]
def sinetListed4 : List Nat := [
  32767]

/-- `TAB_SINET` at indices 0 to 256, as listed (97_reference_tables.md section 1). -/
def sinetListed : List Nat :=
  sinetListed0 ++ sinetListed1 ++ sinetListed2 ++ sinetListed3 ++ sinetListed4

def sine2tListed0 : List Nat := [
  0, 3294197, 6588386, 9882561, 13176711, 16470831, 19764912, 23058947, 26352927, 29646846,
  32940694, 36234465, 39528151, 42821744, 46115236, 49408619, 52701886, 55995030, 59288041, 62580913,
  65873638, 69166207, 72458614, 75750851, 79042909, 82334781, 85626459, 88917936, 92209204, 95500255,
  98791081, 102081674, 105372028, 108662133, 111951983, 115241569, 118530884, 121819920, 125108670, 128397125,
  131685278, 134973121, 138260647, 141547847, 144834714, 148121240, 151407418, 154693239, 157978697, 161263783,
  164548489, 167832808, 171116732, 174400253, 177683365, 180966058, 184248325, 187530158, 190811551, 194092494,
  197372981, 200653003, 203932553, 207211623]
def sine2tListed1 : List Nat := [
  210490205, 213768293, 217045877, 220322950, 223599506, 226875534, 230151030, 233425983, 236700387, 239974234,
  243247517, 246520227, 249792357, 253063900, 256334846, 259605190, 262874923, 266144037, 269412525, 272680379,
  275947591, 279214154, 282480060, 285745301, 289009870, 292273759, 295536960, 298799466, 302061268, 305322360,
  308582733, 311842381, 315101294, 318359466, 321616889, 324873555, 328129456, 331384586, 334638935, 337892497,
  341145265, 344397229, 347648383, 350898719, 354148229, 357396906, 360644742, 363891729, 367137860, 370383127,
  373627522, 376871039, 380113668, 383355403, 386596236, 389836160, 393075166, 396313247, 399550395, 402786603,
  406021864, 409256169, 412489511, 415721883]
def sine2tListed2 : List Nat := [
  418953276, 422183683, 425413097, 428641510, 431868914, 435095302, 438320666, 441544999, 444768293, 447990540,
  451211733, 454431865, 457650927, 460868912, 464085812, 467301621, 470516330, 473729932, 476942419, 480153783,
  483364018, 486573116, 489781068, 492987869, 496193509, 499397981, 502601278, 505803393, 509004317, 512204044,
  515402565, 518599874, 521795962, 524990823, 528184448, 531376830, 534567962, 537757836, 540946445, 544133780,
  547319836, 550504603, 553688075, 556870244, 560051103, 563230644, 566408859, 569585742, 572761285, 575935479,
  579108319, 582279796, 585449902, 588618631, 591785975, 594951926, 598116478, 601279622, 604441351, 607601658,
  610760535, 613917975, 617073970, 620228513]
def sine2tListed3 : List Nat := [
  623381597, 626533214, 629683356, 632832017, 635979189, 639124864, 642269036, 645411696, 648552837, 651692452,
  654830534, 657967075, 661102067, 664235504, 667367378, 670497682, 673626407, 676753548, 679879096, 683003045,
  686125386, 689246113, 692365217, 695482693, 698598532, 701712727, 704825271, 707936157, 711045377, 714152923,
  717258789, 720362967, 723465451, 726566231, 729665302, 732762657, 735858286, 738952185, 742044344, 745134758,
  748223418, 751310317, 754395449, 757478805, 760560379, 763640163, 766718150, 769794333, 772868705, 775941258,
  779011985, 782080880, 785147933, 788213140, 791276491, 794337981, 797397601, 800455345, 803511206, 806565176,
  809617248, 812667415, 815715669, 818762004]
def sine2tListed4 : List Nat := [
  821806412, 824848887, 827889421, 830928006, 833964637, 836999305, 840032003, 843062725, 846091463, 849118210,
  852142958, 855165702, 858186434, 861205146, 864221831, 867236483, 870249094, 873259658, 876268167, 879274613,
  882278991, 885281292, 888281511, 891279639, 894275670, 897269597, 900261412, 903251109, 906238680, 909224119,
  912207418, 915188571, 918167571, 921144410, 924119081, 927091578, 930061893, 933030020, 935995951, 938959680,
  941921199, 944880502, 947837581, 950792430, 953745042, 956695410, 959643526, 962589384, 965532977, 968474299,
  971413341, 974350097, 977284561, 980216725, 983146582, 986074126, 988999350, 991922247, 994842809, 997761030,
  1000676904, 1003590423, 1006501580, 1009410369]
def sine2tListed5 : List Nat := [
  1012316783, 1015220815, 1018122458, 1021021705, 1023918549, 1026812984, 1029705003, 1032594599, 1035481765, 1038366494,
  1041248781, 1044128616, 1047005996, 1049880911, 1052753356, 1055623323, 1058490807, 1061355800, 1064218295, 1067078287,
  1069935767, 1072790729, 1075643168, 1078493075, 1081340444, 1084185269, 1087027543, 1089867258, 1092704410, 1095538990,
  1098370992, 1101200409, 1104027236, 1106851464, 1109673088, 1112492100, 1115308495, 1118122266, 1120933405, 1123741907,
  1126547764, 1129350971, 1132151520, 1134949405, 1137744620, 1140537157, 1143327010, 1146114173, 1148898639, 1151680402,
  1154459455, 1157235791, 1160009404, 1162780287, 1165548434, 1168313839, 1171076494, 1173836394, 1176593532, 1179347901,
  1182099495, 1184848307, 1187594331, 1190337561]
def sine2tListed6 : List Nat := [
  1193077990, 1195815611, 1198550418, 1201282406, 1204011566, 1206737893, 1209461381, 1212182022, 1214899812, 1217614742,
  1220326808, 1223036001, 1225742317, 1228445749, 1231146290, 1233843934, 1236538674, 1239230505, 1241919420, 1244605413,
  1247288476, 1249968605, 1252645793, 1255320033, 1257991319, 1260659645, 1263325004, 1265987391, 1268646799, 1271303221,
  1273956652, 1276607085, 1279254514, 1281898933, 1284540336, 1287178716, 1289814067, 1292446383, 1295075658, 1297701885,
  1300325059, 1302945173, 1305562221, 1308176197, 1310787094, 1313394908, 1315999630, 1318601256, 1321199779, 1323795194,
  1326387493, 1328976671, 1331562722, 1334145640, 1336725418, 1339302051, 1341875532, 1344445856, 1347013016, 1349577006,
  1352137821, 1354695454, 1357249900, 1359801151]
def sine2tListed7 : List Nat := [
  1362349203, 1364894049, 1367435684, 1369974100, 1372509293, 1375041257, 1377569984, 1380095471, 1382617709, 1385136695,
  1387652420, 1390164881, 1392674071, 1395179983, 1397682612, 1400181953, 1402677998, 1405170743, 1407660182, 1410146308,
  1412629116, 1415108600, 1417584754, 1420057573, 1422527049, 1424993179, 1427455955, 1429915373, 1432371425, 1434824107,
  1437273413, 1439719337, 1442161873, 1444601016, 1447036759, 1449469097, 1451898024, 1454323535, 1456745624, 1459164285,
  1461579512, 1463991301, 1466399644, 1468804536, 1471205973, 1473603947, 1475998454, 1478389488, 1480777043, 1483161114,
  1485541694, 1487918779, 1490292363, 1492662440, 1495029005, 1497392051, 1499751575, 1502107569, 1504460028, 1506808947,
  1509154321, 1511496144, 1513834409, 1516169113]
def sine2tListed8 : List Nat := [
  1518500249, 1520827811, 1523151796, 1525472195, 1527789006, 1530102221, 1532411836, 1534717845, 1537020242, 1539319023,
  1541614182, 1543905713, 1546193611, 1548477871, 1550758487, 1553035454, 1555308767, 1557578419, 1559844407, 1562106724,
  1564365365, 1566620326, 1568871600, 1571119182, 1573363067, 1575603250, 1577839725, 1580072488, 1582301532, 1584526853,
  1586748446, 1588966305, 1591180424, 1593390800, 1595597426, 1597800298, 1599999410, 1602194757, 1604386334, 1606574135,
  1608758156, 1610938392, 1613114836, 1615287485, 1617456334, 1619621376, 1621782607, 1623940021, 1626093615, 1628243382,
  1630389317, 1632531417, 1634669674, 1636804086, 1638934645, 1641061348, 1643184190, 1645303165, 1647418268, 1649529495,
  1651636840, 1653740299, 1655839866, 1657935537]
def sine2tListed9 : List Nat := [
  1660027307, 1662115171, 1664199123, 1666279160, 1668355275, 1670427465, 1672495724, 1674560047, 1676620430, 1678676868,
  1680729356, 1682777889, 1684822462, 1686863071, 1688899710, 1690932375, 1692961061, 1694985763, 1697006477, 1699023198,
  1701035921, 1703044641, 1705049354, 1707050054, 1709046738, 1711039400, 1713028036, 1715012641, 1716993210, 1718969739,
  1720942223, 1722910658, 1724875039, 1726835360, 1728791618, 1730743809, 1732691926, 1734635967, 1736575926, 1738511798,
  1740443579, 1742371265, 1744294851, 1746214333, 1748129706, 1750040965, 1751948106, 1753851124, 1755750016, 1757644776,
  1759535400, 1761421884, 1763304223, 1765182413, 1767056449, 1768926327, 1770792043, 1772653592, 1774510969, 1776364171,
  1778213193, 1780058031, 1781898680, 1783735136]
def sine2tListed10 : List Nat := [
  1785567395, 1787395452, 1789219303, 1791038944, 1792854371, 1794665579, 1796472564, 1798275321, 1800073847, 1801868137,
  1803658188, 1805443994, 1807225552, 1809002857, 1810775905, 1812544693, 1814309215, 1816069468, 1817825448, 1819577150,
  1821324571, 1823067705, 1824806550, 1826541101, 1828271354, 1829997305, 1831718950, 1833436285, 1835149305, 1836858007,
  1838562387, 1840262440, 1841958163, 1843649552, 1845336602, 1847019310, 1848697672, 1850371684, 1852041342, 1853706642,
  1855367579, 1857024151, 1858676353, 1860324182, 1861967633, 1863606703, 1865241387, 1866871682, 1868497584, 1870119090,
  1871736195, 1873348896, 1874957188, 1876561068, 1878160533, 1879755578, 1881346200, 1882932395, 1884514160, 1886091490,
  1887664381, 1889232831, 1890796835, 1892356390]
def sine2tListed11 : List Nat := [
  1893911493, 1895462138, 1897008324, 1898550045, 1900087299, 1901620082, 1903148391, 1904672221, 1906191569, 1907706431,
  1909216805, 1910722686, 1912224071, 1913720956, 1915213339, 1916701214, 1918184579, 1919663431, 1921137766, 1922607579,
  1924072869, 1925533631, 1926989863, 1928441559, 1929888719, 1931331336, 1932769410, 1934202935, 1935631909, 1937056328,
  1938476189, 1939891489, 1941302224, 1942708390, 1944109986, 1945507007, 1946899449, 1948287311, 1949670588, 1951049277,
  1952423376, 1953792880, 1955157786, 1956518092, 1957873794, 1959224889, 1960571374, 1961913245, 1963250500, 1964583135,
  1965911147, 1967234533, 1968553290, 1969867415, 1971176905, 1972481756, 1973781966, 1975077531, 1976368449, 1977654716,
  1978936329, 1980213286, 1981485584, 1982753218]
def sine2tListed12 : List Nat := [
  1984016187, 1985274488, 1986528117, 1987777071, 1989021348, 1990260945, 1991495858, 1992726085, 1993951623, 1995172470,
  1996388621, 1997600075, 1998806828, 2000008877, 2001206221, 2002398855, 2003586778, 2004769986, 2005948476, 2007122247,
  2008291294, 2009455616, 2010615209, 2011770071, 2012920199, 2014065591, 2015206243, 2016342154, 2017473319, 2018599738,
  2019721406, 2020838322, 2021950482, 2023057885, 2024160527, 2025258407, 2026351520, 2027439866, 2028523440, 2029602242,
  2030676267, 2031745514, 2032809981, 2033869663, 2034924560, 2035974669, 2037019987, 2038060511, 2039096240, 2040127170,
  2041153300, 2042174627, 2043191148, 2044202862, 2045209765, 2046211856, 2047209132, 2048201590, 2049189229, 2050172046,
  2051150039, 2052123205, 2053091543, 2054055049]
def sine2tListed13 : List Nat := [
  2055013722, 2055967559, 2056916558, 2057860717, 2058800034, 2059734506, 2060664132, 2061588909, 2062508834, 2063423906,
  2064334123, 2065239482, 2066139982, 2067035619, 2067926393, 2068812301, 2069693340, 2070569510, 2071440807, 2072307229,
  2073168776, 2074025444, 2074877232, 2075724137, 2076566158, 2077403293, 2078235539, 2079062895, 2079885359, 2080702928,
  2081515602, 2082323377, 2083126253, 2083924227, 2084717297, 2085505461, 2086288718, 2087067066, 2087840503, 2088609027,
  2089372636, 2090131329, 2090885104, 2091633958, 2092377891, 2093116900, 2093850983, 2094580140, 2095304368, 2096023666,
  2096738031, 2097447462, 2098151959, 2098851517, 2099546137, 2100235817, 2100920555, 2101600349, 2102275197, 2102945099,
  2103610052, 2104270056, 2104925108, 2105575206]
def sine2tListed14 : List Nat := [
  2106220350, 2106860538, 2107495769, 2108126040, 2108751350, 2109371699, 2109987084, 2110597504, 2111202957, 2111803443,
  2112398959, 2112989505, 2113575078, 2114155678, 2114731304, 2115301953, 2115867624, 2116428317, 2116984030, 2117534761,
  2118080509, 2118621274, 2119157053, 2119687845, 2120213650, 2120734465, 2121250290, 2121761124, 2122266965, 2122767812,
  2123263664, 2123754520, 2124240379, 2124721239, 2125197099, 2125667958, 2126133816, 2126594670, 2127050521, 2127501366,
  2127947205, 2128388037, 2128823860, 2129254674, 2129680478, 2130101271, 2130517051, 2130927817, 2131333570, 2131734307,
  2132130028, 2132520732, 2132906418, 2133287086, 2133662733, 2134033359, 2134398964, 2134759547, 2135115106, 2135465641,
  2135811151, 2136151635, 2136487093, 2136817524]
def sine2tListed15 : List Nat := [
  2137142926, 2137463299, 2137778643, 2138088956, 2138394238, 2138694489, 2138989706, 2139279891, 2139565041, 2139845157,
  2140120238, 2140390283, 2140655291, 2140915262, 2141170196, 2141420091, 2141664947, 2141904763, 2142139539, 2142369275,
  2142593969, 2142813622, 2143028233, 2143237800, 2143442325, 2143641805, 2143836242, 2144025634, 2144209981, 2144389282,
  2144563537, 2144732746, 2144896908, 2145056023, 2145210091, 2145359111, 2145503082, 2145642005, 2145775879, 2145904703,
  2146028478, 2146147204, 2146260879, 2146369504, 2146473078, 2146571602, 2146665074, 2146753495, 2146836865, 2146915182,
  2146988448, 2147056662, 2147119824, 2147177933, 2147230990, 2147278994, 2147321945, 2147359843, 2147392689, 2147420481,
  2147443221, 2147460907, 2147473540, 2147481120]
def sine2tListed16 : List Nat := [
  2147483647]

/-- `TAB_SINE2T` at indices 0 to 1024, as listed (97_reference_tables.md section 2). -/
def sine2tListed : List Nat :=
  sine2tListed0 ++ sine2tListed1 ++ sine2tListed2 ++ sine2tListed3 ++ sine2tListed4 ++ sine2tListed5 ++ sine2tListed6 ++ sine2tListed7 ++
  sine2tListed8 ++ sine2tListed9 ++ sine2tListed10 ++ sine2tListed11 ++ sine2tListed12 ++ sine2tListed13 ++ sine2tListed14 ++ sine2tListed15 ++
  sine2tListed16

def windowtListed0 : List Nat := [
  0, 0, 1, 2, 4, 7, 11, 15, 19, 24,
  30, 37, 44, 52, 60, 69, 78, 89, 99, 111,
  123, 135, 149, 162, 177, 192, 208, 224, 241, 258,
  276, 295, 314, 334, 355, 376, 398, 420, 443, 466,
  490, 515, 541, 566, 593, 620, 648, 676, 705, 734,
  765, 795, 826, 858, 891, 924, 957, 991, 1026, 1061,
  1097, 1134, 1171, 1208]
def windowtListed1 : List Nat := [
  1247, 1285, 1325, 1365, 1405, 1446, 1488, 1530, 1572, 1616,
  1660, 1704, 1749, 1794, 1840, 1887, 1934, 1982, 2030, 2079,
  2128, 2178, 2228, 2279, 2330, 2382, 2435, 2488, 2541, 2595,
  2650, 2705, 2761, 2817, 2873, 2930, 2988, 3046, 3105, 3164,
  3224, 3284, 3344, 3406, 3467, 3529, 3592, 3655, 3718, 3782,
  3847, 3912, 3977, 4043, 4110, 4176, 4244, 4311, 4380, 4448,
  4517, 4587, 4657, 4727]
def windowtListed2 : List Nat := [
  4798, 4869, 4941, 5013, 5086, 5159, 5232, 5306, 5381, 5455,
  5530, 5606, 5682, 5758, 5835, 5912, 5989, 6067, 6146, 6224,
  6303, 6383, 6463, 6543, 6623, 6704, 6786, 6867, 6949, 7032,
  7114, 7197, 7281, 7365, 7449, 7533, 7618, 7703, 7788, 7874,
  7960, 8047, 8133, 8220, 8308, 8395, 8483, 8571, 8660, 8749,
  8838, 8927, 9017, 9107, 9197, 9287, 9378, 9469, 9560, 9652,
  9744, 9836, 9928, 10021]
def windowtListed3 : List Nat := [
  10113, 10206, 10300, 10393, 10487, 10581, 10675, 10769, 10864, 10958,
  11053, 11148, 11244, 11339, 11435, 11531, 11627, 11723, 11820, 11917,
  12013, 12110, 12207, 12305, 12402, 12500, 12597, 12695, 12793, 12892,
  12990, 13088, 13187, 13285, 13384, 13483, 13582, 13681, 13780, 13880,
  13979, 14079, 14178, 14278, 14377, 14477, 14577, 14677, 14777, 14877,
  14977, 15078, 15178, 15278, 15378, 15479, 15579, 15680, 15780, 15880,
  15981, 16081, 16182, 16282]
def windowtListed4 : List Nat := [
  16383, 16484, 16584, 16685, 16785, 16886, 16986, 17086, 17187, 17287,
  17388, 17488, 17588, 17688, 17789, 17889, 17989, 18089, 18189, 18289,
  18389, 18488, 18588, 18687, 18787, 18886, 18986, 19085, 19184, 19283,
  19382, 19481, 19579, 19678, 19776, 19874, 19973, 20071, 20169, 20266,
  20364, 20461, 20559, 20656, 20753, 20849, 20946, 21043, 21139, 21235,
  21331, 21427, 21522, 21618, 21713, 21808, 21902, 21997, 22091, 22185,
  22279, 22373, 22466, 22560]
def windowtListed5 : List Nat := [
  22653, 22745, 22838, 22930, 23022, 23114, 23206, 23297, 23388, 23479,
  23569, 23659, 23749, 23839, 23928, 24017, 24106, 24195, 24283, 24371,
  24458, 24546, 24633, 24719, 24806, 24892, 24978, 25063, 25148, 25233,
  25317, 25401, 25485, 25569, 25652, 25734, 25817, 25899, 25980, 26062,
  26143, 26223, 26303, 26383, 26463, 26542, 26620, 26699, 26777, 26854,
  26931, 27008, 27084, 27160, 27236, 27311, 27385, 27460, 27534, 27607,
  27680, 27753, 27825, 27897]
def windowtListed6 : List Nat := [
  27968, 28039, 28109, 28179, 28249, 28318, 28386, 28455, 28522, 28590,
  28656, 28723, 28789, 28854, 28919, 28984, 29048, 29111, 29174, 29237,
  29299, 29360, 29422, 29482, 29542, 29602, 29661, 29720, 29778, 29836,
  29893, 29949, 30005, 30061, 30116, 30171, 30225, 30278, 30331, 30384,
  30436, 30487, 30538, 30588, 30638, 30687, 30736, 30784, 30832, 30879,
  30926, 30972, 31017, 31062, 31106, 31150, 31194, 31236, 31278, 31320,
  31361, 31401, 31441, 31481]
def windowtListed7 : List Nat := [
  31519, 31558, 31595, 31632, 31669, 31705, 31740, 31775, 31809, 31842,
  31875, 31908, 31940, 31971, 32001, 32032, 32061, 32090, 32118, 32146,
  32173, 32200, 32225, 32251, 32276, 32300, 32323, 32346, 32368, 32390,
  32411, 32432, 32452, 32471, 32490, 32508, 32525, 32542, 32558, 32574,
  32589, 32604, 32617, 32631, 32643, 32655, 32667, 32677, 32688, 32697,
  32706, 32714, 32722, 32729, 32736, 32742, 32747, 32751, 32755, 32759,
  32762, 32764, 32765, 32766]
def windowtListed8 : List Nat := [
  32767]

/-- `TAB_WINDOWT` at indices 0 to 512, as listed (97_reference_tables.md section 3). -/
def windowtListed : List Nat :=
  windowtListed0 ++ windowtListed1 ++ windowtListed2 ++ windowtListed3 ++ windowtListed4 ++ windowtListed5 ++ windowtListed6 ++ windowtListed7 ++
  windowtListed8

def pitchtListed0 : List Nat := [
  18144, 19223, 20367, 21578, 22861, 24220, 25660, 27186, 28803, 30516,
  32330, 34253, 36289, 38447, 40734, 43156, 45722, 48441, 51321, 54373,
  57606, 61032, 64661, 68506, 72579, 76895, 81468, 86312, 91444, 96882,
  102643, 108746, 115213, 122064, 129322, 137012, 145159, 153791, 162936, 172624,
  182889, 193764, 205286, 217493, 230426, 244128, 258644, 274024, 290319, 307582,
  325872, 345249, 365779, 387529, 410573, 434987, 460852, 488256, 517289, 548049,
  580638, 615164, 651744, 690498]
def pitchtListed1 : List Nat := [
  731558, 775058, 821146, 869974, 921705, 976512, 1034579, 1096098, 1161276, 1230329,
  1303488, 1380997, 1463116, 1550117, 1642292, 1739948, 1843410, 1953025, 2069158, 2192197,
  2322552, 2460658, 2606976, 2761995, 2926232, 3100235, 3284584, 3479896, 3686821, 3906051,
  4138317, 4384394, 4645104, 4921316, 5213953, 5523991, 5852464, 6200470, 6569169, 6959792,
  7373643, 7812103, 8276635, 8768789, 9290208, 9842633, 10427906, 11047982, 11704929, 12400940,
  13138339, 13919585, 14747287, 15624206, 16553270, 17537578, 18580417, 19685266, 20855813, 22095964,
  23409859, 24801881, 26276678, 27839171]
def pitchtListed2 : List Nat := [
  29494574, 31248413, 33106540, 35075157, 37160835, 39370533, 41711627, 44191929, 46819718, 49603763,
  52553357, 55678342, 58989149, 62496826, 66213081, 70150315, 74321670, 78741067, 83423254, 88383859,
  93639437, 99207527, 105106714, 111356684, 117978298, 124993652, 132426162, 140300631, 148643341, 157482134,
  166846509, 176767718, 187278874, 198415055, 210213429, 222713369, 235956596, 249987305, 264852324, 280601262,
  297286682, 314964268, 333693018, 353535437, 374557748, 396830111, 420426858, 445426739, 471913192, 499974610,
  529704648, 561202525, 594573364, 629928536, 667386036, 707070875, 749115497, 793660223, 840853716, 890853479,
  943826384, 999949221, 1059409296, 1122405051]
def pitchtListed3 : List Nat := [
  1189146729, 1259857073, 1334772073, 1414141751, 1498230995, 1587320446, 1681707432, 1781706959, 1887652769, 1999898443,
  2118818593]

/-- `TAB_PITCHT` at indices 0 to 202; from 203 on every entry is the clamp value (97_reference_tables.md section 4). -/
def pitchtListed : List Nat :=
  pitchtListed0 ++ pitchtListed1 ++ pitchtListed2 ++ pitchtListed3

def logtListed0 : List Nat := [
  0, 368, 735, 1101, 1465, 1828, 2190, 2550, 2909, 3266,
  3622, 3977, 4331, 4683, 5034, 5383, 5731, 6078, 6424, 6769,
  7112, 7454, 7794, 8134, 8472, 8809, 9145, 9480, 9813, 10146,
  10477, 10807, 11136, 11463, 11790, 12115, 12440, 12763, 13085, 13406,
  13726, 14045, 14363, 14680, 14995, 15310, 15624, 15936, 16248, 16558,
  16868, 17176, 17484, 17790, 18096, 18400, 18704, 19006, 19308, 19608,
  19908, 20207, 20505, 20801]
def logtListed1 : List Nat := [
  21097, 21392, 21686, 21980, 22272, 22563, 22854, 23143, 23432, 23720,
  24007, 24293, 24578, 24862, 25146, 25429, 25710, 25991, 26272, 26551,
  26829, 27107, 27384, 27660, 27935, 28210, 28483, 28756, 29028, 29300,
  29570, 29840, 30109, 30377, 30644, 30911, 31177, 31442, 31707, 31971,
  32234, 32496, 32757, 33018, 33278, 33538, 33796, 34054, 34312, 34568,
  34824, 35079, 35334, 35588, 35841, 36093, 36345, 36596, 36847, 37096,
  37346, 37594, 37842, 38089]
def logtListed2 : List Nat := [
  38336, 38582, 38827, 39071, 39315, 39559, 39801, 40044, 40285, 40526,
  40766, 41006, 41245, 41483, 41721, 41959, 42195, 42431, 42667, 42902,
  43136, 43370, 43603, 43836, 44068, 44299, 44530, 44760, 44990, 45219,
  45448, 45676, 45904, 46131, 46357, 46583, 46808, 47033, 47257, 47481,
  47704, 47927, 48149, 48371, 48592, 48813, 49033, 49253, 49472, 49690,
  49909, 50126, 50343, 50560, 50776, 50992, 51207, 51421, 51635, 51849,
  52062, 52275, 52487, 52699]
def logtListed3 : List Nat := [
  52910, 53121, 53331, 53541, 53751, 53960, 54168, 54376, 54584, 54791,
  54998, 55204, 55410, 55615, 55820, 56024, 56228, 56432, 56635, 56837,
  57040, 57242, 57443, 57644, 57844, 58044, 58244, 58443, 58642, 58841,
  59039, 59236, 59433, 59630, 59827, 60023, 60218, 60413, 60608, 60802,
  60996, 61190, 61383, 61576, 61768, 61960, 62152, 62343, 62534, 62724,
  62914, 63104, 63293, 63482, 63671, 63859, 64047, 64234, 64421, 64608,
  64794, 64980, 65165, 65351]

/-- `TAB_LOGT`, as listed (97_reference_tables.md section 5). -/
def logtListed : List Nat :=
  logtListed0 ++ logtListed1 ++ logtListed2 ++ logtListed3

/-- A quarter wave (indices 0 to n) continued to a half wave: `[2n - i] = [i]` (97_reference_tables.md). -/
def mirrored (q : List Nat) : List Nat := q ++ q.reverse.tail

/-- A half wave (indices 0 to n) continued to the full odd wave with its guard sample: `[n + i] = -[i]`
(97_reference_tables.md; R123, R124). -/
def oddWave (w : Nat) (half : List Nat) : List (BitVec w) :=
  half.map (BitVec.ofNat w) ++ half.tail.map fun v => -(BitVec.ofNat w v)

/-- Reference `TAB_SINET` as a list (R123). -/
def sinetList : List Half := oddWave 16 (mirrored sinetListed)
/-- Reference `TAB_SINE2T` as a list (R124). -/
def sine2tList : List Word := oddWave 32 (mirrored sine2tListed)
/-- Reference `TAB_WINDOWT` as a list: `[1024 - i] = [i]` (R125). -/
def windowtList : List Half := (mirrored windowtListed).map (BitVec.ofNat 16)
/-- Reference `TAB_PITCHT` as a list, clamped to 0x7FFFFFFF from index 203 (R126). -/
def pitchtList : List Word := pitchtListed.map (BitVec.ofNat 32) ++ List.replicate 54 Config.maxw
/-- Reference `TAB_LOGT` as a list (R128). -/
def logtList : List Half := logtListed.map (BitVec.ofNat 16)
/-- `TAB_EXPT`, whose contents the spec leaves open (R127). -/
def exptList : List Half := (List.range 256).map Config.openExpt

theorem sinetListed_length : sinetListed.length = 257 := by decide +kernel
theorem sine2tListed_length : sine2tListed.length = 1025 := by decide +kernel
theorem windowtListed_length : windowtListed.length = 513 := by decide +kernel
theorem pitchtListed_length : pitchtListed.length = 203 := by decide +kernel
theorem logtListed_length : logtListed.length = 256 := by decide +kernel

/-- The default configuration of an instance of CORE (R8, R123 to R128; 92_eei_decisions.md D12 to D17). -/
def config : TableConfig where
  tabSinet := ⟨sinetList.toArray, by simp [sinetList, oddWave, mirrored, sinetListed_length]⟩
  tabSine2t := ⟨sine2tList.toArray, by simp [sine2tList, oddWave, mirrored, sine2tListed_length]⟩
  tabWindowt := ⟨windowtList.toArray, by simp [windowtList, mirrored, windowtListed_length]⟩
  tabPitcht := ⟨pitchtList.toArray, by simp [pitchtList, pitchtListed_length]⟩
  tabExpt := ⟨exptList.toArray, by simp [exptList]⟩
  tabLogt := ⟨logtList.toArray, by simp [logtList, logtListed_length]⟩

end Sys2Proof.Machine.Reference
end

