-- ==== Sys2Proof/Machine/State.lean ====
section
/-! DEFINITION. The state of CORE (spec/10_state.md R23: eight items, and nothing else) with the model's own fields beside it,
the reasons a step can stop, and the state after reset (spec/70_reset_and_hazards.md R231 to R233). -/

namespace Sys2Proof.Machine

/-- Why CORE stops with a fault: it never does. "CORE raises none" (R210), every legal command completes, and the spec names no
other stop; so no constructor. -/
inductive Fault where
deriving DecidableEq, Repr

/-- Why the model gives a step no meaning. -/
inductive Refusal where
  /-- Raised by `exec`'s arm of an instruction without a meaning; none is left. Safe: the model stops. -/
  | notModelled (mnemonic : String)
  /-- Raised by `step` when the packet spells no operation: the spec defines no behaviour for it and "a model refuses it"
  (R76, U8). Safe: nothing is claimed past it (log 3). -/
  | reservedCommand (why : Reserved)
deriving DecidableEq, Repr

/-- The machine. The first eight fields are the spec's state (R23). -/
structure State where
  /-- The sine table, 1024 samples and a guard sample, signed 16-bit (R24). Written by INIT, read by no operation. -/
  sinet : Vector Half 1025
  /-- The double-resolution sine table, 4096 samples and a guard sample, signed 32-bit (R25). -/
  sine2t : Vector Word 4097
  /-- The window table, 1024 samples and a guard sample, signed 16-bit (R26). -/
  windowt : Vector Half 1025
  /-- The pitch table, unsigned 32-bit; entry `128 + k` belongs to pitch step `k` (R27). -/
  pitcht : Vector Word 257
  /-- The exponential table, unsigned 16-bit (R28). Written by INIT, read by no operation. -/
  expt : Vector Half 256
  /-- The log table, unsigned 16-bit (R29). -/
  logt : Vector Half 256
  /-- `RNG`, the generator word (R31). -/
  rng : Word
  /-- `TV`, tables valid (R30). -/
  tv : Bool
  /-- MODEL'S OWN: the instance's configuration, which no step and no reset changes (R8, R37, R233; log 8). -/
  cfg : TableConfig
  /-- MODEL'S OWN: what the requester presents, the next request first (R21, R56, R230; log 1). -/
  stream : List Request
  /-- MODEL'S OWN: the last response given; no operation reads it (R20, R74; log 2). -/
  response : Response
  /-- MODEL'S OWN: the index of the next free value (log 6). -/
  freeCount : Nat
deriving DecidableEq, Repr

/-- An instance with configuration `cfg` right after reset: `RNG = SEED0` (R231), `TV = 0` (R232), nothing presented and
nothing answered. The table elements are unspecified (R232): zero is the model's DESIGN CHOICE (log 7), unsafe, and no
operation can observe it. -/
def State.resetWith (cfg : TableConfig) : State where
  sinet := Vector.replicate 1025 0
  sine2t := Vector.replicate 4097 0
  windowt := Vector.replicate 1025 0
  pitcht := Vector.replicate 257 0
  expt := Vector.replicate 256 0
  logt := Vector.replicate 256 0
  rng := Config.seed0
  tv := false
  cfg := cfg
  stream := []
  response := .none
  freeCount := 0

/-- The machine right after reset, with the reference configuration (R233, R8; logs 7, 8). -/
def State.reset : State := State.resetWith Reference.config

end Sys2Proof.Machine
end

