-- ==== Sys2Proof/Machine/Ops.lean ====
section
/-! DEFINITION. The operations that every meaning is built from: reading a table element (spec/00_scope.md R15), giving a
response (spec/30_encoding.md R74, R16), drawing a free value (R236), staying idle (R221) and taking a reset (R230 to R233).
CORE takes no exception and returns from none (R210, R215, R216): there is no such operation. -/

namespace Sys2Proof.Machine

/-- What a step answers. -/
abbrev Result := Host.Outcome State Fault Refusal

/-- `T[i]`: element `i` of table `t`, "defined only for `0 <= i < length(T)` and only while `TV = 1`" (R15); `none` is "not
defined". By R53 no operation computes an index outside its table (log 19). -/
def State.element {α : Type} {n : Nat} (s : State) (t : Vector α n) (i : Int) : Option α :=
  if s.tv = true ∧ 0 ≤ i then t[i.toNat]? else none

/-- Gives a response (R74). -/
def State.respond (s : State) (r : Response) : State := { s with response := r }

/-- `R <- unspecified` of a table read while `TV = 0`: "still one 32-bit word, returned as a normal response", and no other state
of CORE changes (R236, R16). The word is free and fresh (DESIGN CHOICE, logs 4, 6). -/
def State.respondFree (s : State) : State :=
  { s with response := .result (Config.freeWord s.freeCount), freeCount := s.freeCount + 1 }

/-- The end of an operation that has a result word: `some v` is `R <- v`, `none` is `R <- unspecified`
for want of a table element (R16, R236). -/
def State.answer (s : State) (r : Option Word) : Result :=
  match r with
  | some v => .next (s.respond (.result v))
  | none => .next s.respondFree

/-- The end of INIT and SEED: a completion that carries no data (R74). -/
def State.complete (s : State) : Result := .next (s.respond .completion)

/-- `s` with `rest` presented: what is left when the next request has been taken (R56). -/
def State.withStream (s : State) (rest : List Request) : State := { s with stream := rest }

/-- With nothing presented CORE is idle "and keeps all its state" (R221; log 11). -/
def State.idle (s : State) : State := s

/-- Takes a reset: `RNG`, `TV` and the tables return to their reset state, the configuration stays, CORE is idle (R230 to R233).
What the requester still presents, and the supply of free values, are outside CORE and go on (logs 6, 12). -/
def State.takeReset (s : State) : State :=
  { State.resetWith s.cfg with stream := s.stream, freeCount := s.freeCount }

end Sys2Proof.Machine
end

