-- ==== Sys2Proof/Machine/Convert.lean ====
section
/-! DEFINITION. Component 6, the conversions (spec/46_conversions.md R190 to R196): I2F, F2I and FL2F. They read no table and no
state, clamp nothing and flag nothing (R195). -/

namespace Sys2Proof.Machine

/-- `lsl32(A, 21)`: wraps outside -1024 to 1023 (R191). -/
def i2f (a : Word) : Word := lsl32 a Config.fracBits

/-- `asr32(A, 21)`: rounds toward minus infinity (R192). -/
def f2i (a : Word) : Word := asr32 a Config.fracBits

/-- FL2F's result as R193 gives it: truncation toward zero, `none` (unspecified) for an infinity, a not-a-number and a value outside the word's
range (R193, U3). -/
def fl2f (a : Word) : Option Word :=
  if (binary32Of a).isFinite && fitsWord (scaledValue (binary32Of a)) then some (trunc32 (scaledValue (binary32Of a)))
  else none

/-- FL2F's result word: where R193 leaves it unspecified, the operand's own free word, so that the result stays a function of
the operand (R56(c), R242; log 5). -/
def fl2fWord (a : Word) : Word := (fl2f a).getD (Config.freeFloat a)

/-- I2F (R191). -/
def execI2f (a : Word) (s : State) : Result := s.answer (some (i2f a))

/-- F2I (R192). -/
def execF2i (a : Word) (s : State) : Result := s.answer (some (f2i a))

/-- FL2F (R193). -/
def execFl2f (a : Word) (s : State) : Result := s.answer (some (fl2fWord a))

end Sys2Proof.Machine
end

