-- ==== Sys2Proof/Machine/Multiply.lean ====
section
/-! DEFINITION. Component 1, the rounding multiply primitives (spec/41_rounding_multiply.md R100 to R106): RMUL, RMLA, RMLS and
the blend that the interpolating operations end in. They read and write no state, raise nothing and never saturate (R100). -/

namespace Sys2Proof.Machine

/-- `hi32r(s32(A) * s32(B))` (R101). -/
def rmul (a b : Word) : Word := hi32r (a.toInt * b.toInt)

/-- `hi32r(s32(C) * 2^32 + s32(A) * s32(B))` (R102). -/
def rmla (a b c : Word) : Word := hi32r (c.toInt * 2 ^ 32 + a.toInt * b.toInt)

/-- `hi32r(s32(C) * 2^32 - s32(A) * s32(B))`: rounded once (R103). -/
def rmls (a b c : Word) : Word := hi32r (c.toInt * 2 ^ 32 - a.toInt * b.toInt)

/-- The blend's word `r2` before the final shift (R106): multiply `y1` first, accumulate `y2` second. -/
def blendSum (y1 y2 pf : Word) : Word := rmla y2 pf (rmul y1 (Config.maxw - pf))

/-- The blend of two samples by weight `pf`; bit 31 of `r2` is lost (R106). -/
def blend (y1 y2 pf : Word) : Word := lsl32 (blendSum y1 y2 pf) 1

/-- The blend of two samples that a table read gave or did not give (R106, R236). -/
def blendRead (y1 y2 : Option Word) (pf : Word) : Option Word :=
  match y1, y2 with
  | some a, some b => some (blend a b pf)
  | _, _ => none

/-- RMUL (R101). -/
def execRmul (a b : Word) (s : State) : Result := s.answer (some (rmul a b))

/-- RMLA (R102). -/
def execRmla (a b c : Word) (s : State) : Result := s.answer (some (rmla a b c))

/-- RMLS (R103). -/
def execRmls (a b c : Word) (s : State) : Result := s.answer (some (rmls a b c))

end Sys2Proof.Machine
end

