-- ==== Sys2Proof/Machine/Interpolate.lean ====
section
/-! DEFINITION. Component 3, the interpolators (spec/43_interpolators.md R140 to R142): SINE and WINDOW. -/

namespace Sys2Proof.Machine

/-- SINE's result: the blend of `sine2t[pi]` and `sine2t[pi + 1]` (R141). -/
def sineResult (s : State) (a : Word) : Option Word :=
  blendRead (s.element s.sine2t (sineIndex a)) (s.element s.sine2t (sineIndex a + 1)) (sineWeight a)

/-- WINDOW's result: the blend of the widened `windowt[pi]` and `windowt[pi + 1]` (R142). -/
def windowResult (s : State) (a : Word) : Option Word :=
  blendRead ((s.element s.windowt (windowIndex a)).map widenWindow)
    ((s.element s.windowt (windowIndex a + 1)).map widenWindow) (windowWeight a)

/-- SINE (R141); while `TV = 0` the result is unspecified (R236). -/
def execSine (a : Word) (s : State) : Result := s.answer (sineResult s a)

/-- WINDOW (R142); while `TV = 0` the result is unspecified (R236). -/
def execWindow (a : Word) (s : State) : Result := s.answer (windowResult s a)

end Sys2Proof.Machine
end

