-- ==== Sys2Proof/Machine/Log.lean ====
section
/-! DEFINITION. Component 5, the fast logarithm (spec/45_fast_log.md R180, R181): LOG2. -/

namespace Sys2Proof.Machine

/-- LOG2's result (R181). The zero test comes before the table read: `LOG2 0` is the sentinel whether or not INIT has run
(R213). -/
def log2Result (s : State) (a : Word) : Option Word :=
  if isZero a then some Config.log2Zero
  else (s.element s.logt (logMantissa a)).map (logValue (msb a))

/-- LOG2 (R181); of a non-zero operand while `TV = 0` the result is unspecified (R236). -/
def execLog2 (a : Word) (s : State) : Result := s.answer (log2Result s a)

end Sys2Proof.Machine
end

