-- ==== Sys2Proof/Machine/Pitch.lean ====
section
/-! DEFINITION. Component 4, pitch conversion (spec/44_pitch_conversion.md R160 to R166): MTOF and MTOFX. -/

namespace Sys2Proof.Machine

/-- What both variants do with a saturated pitch `p`: index, then blend (R163, R166). Entries are passed bit for bit and read
as signed (R164). -/
def pitchResult (s : State) (p : Word) : Option Word :=
  blendRead (s.element s.pitcht (pitchIndex p)) (s.element s.pitcht (pitchIndex p + 1)) (pitchWeight p)

/-- `mtof_N(A)`: "saturate-before-index" (R163). -/
def mtofResult (n : Nat) (s : State) (a : Word) : Option Word := pitchResult s (ssat n a)

/-- MTOF: the operand is clamped to 28 bits (R161); while `TV = 0` the result is unspecified (R236). -/
def execMtof (a : Word) (s : State) : Result := s.answer (mtofResult Config.satStd s a)

/-- MTOFX: the operand is clamped to 29 bits (R162); while `TV = 0` the result is unspecified (R236). -/
def execMtofx (a : Word) (s : State) : Result := s.answer (mtofResult Config.satExt s a)

end Sys2Proof.Machine
end

