-- ==== Sys2Proof/Machine/Random.lean ====
section
/-! DEFINITION. Component 7, the random generator (spec/47_random.md R200 to R202): RAND and SEED. -/

namespace Sys2Proof.Machine

/-- One step of the generator: `trunc32(u32(RNG) * 196314165 + 907633515)` (R201); word arithmetic is modulo 2^32. The constants
stand first: written last, they make Lean's kernel count up to them when it compares two states. -/
def lcgNext (x : Word) : Word := Config.lcgC + Config.lcgA * x

/-- `RNG <- v` (R16). -/
def State.setRng (s : State) (v : Word) : State := { s with rng := v }

/-- RAND: the new state is kept and is the result, all 32 bits (R201). -/
def execRand (s : State) : Result := (s.setRng (lcgNext s.rng)).answer (some (lcgNext s.rng))

/-- SEED: the operand becomes the state itself (R202). -/
def execSeed (a : Word) (s : State) : Result := (s.setRng a).complete

end Sys2Proof.Machine
end

