-- ==== Sys2Proof/Machine/TableInit.lean ====
section
/-! DEFINITION. Component 2, the table store (spec/42_table_init.md R120 to R122): INIT. -/

namespace Sys2Proof.Machine

/-- The six loops of R121 and `TV <- 1`: every table, whole, from the configuration; `RNG` is not touched (R122). -/
def State.loadTables (s : State) : State :=
  { s with
    sinet := s.cfg.tabSinet
    sine2t := s.cfg.tabSine2t
    windowt := s.cfg.tabWindowt
    pitcht := s.cfg.tabPitcht
    expt := s.cfg.tabExpt
    logt := s.cfg.tabLogt
    tv := true }

/-- INIT (R121): no result word; it cannot fail (R129). -/
def execInit (s : State) : Result := s.loadTables.complete

end Sys2Proof.Machine
end

