-- ==== Sys2Proof/Machine/Dispatch.lean ====
section
/-! DEFINITION. The meaning of each instruction: one arm per constructor (spec/30_encoding.md R72). -/

namespace Sys2Proof.Machine

def exec (i : Instr) (s : State) : Host.Outcome State Fault Refusal :=
  match i with
  | .rmul a b => Sys2Proof.Machine.execRmul a b s
  | .rmla a b c => Sys2Proof.Machine.execRmla a b c s
  | .rmls a b c => Sys2Proof.Machine.execRmls a b c s
  | .init => Sys2Proof.Machine.execInit s
  | .sine a => Sys2Proof.Machine.execSine a s
  | .window a => Sys2Proof.Machine.execWindow a s
  | .mtof a => Sys2Proof.Machine.execMtof a s
  | .mtofx a => Sys2Proof.Machine.execMtofx a s
  | .log2 a => Sys2Proof.Machine.execLog2 a s
  | .i2f a => Sys2Proof.Machine.execI2f a s
  | .f2i a => Sys2Proof.Machine.execF2i a s
  | .fl2f a => Sys2Proof.Machine.execFl2f a s
  | .rand => Sys2Proof.Machine.execRand s
  | .seed a => Sys2Proof.Machine.execSeed a s

end Sys2Proof.Machine
end

