-- ==== Sys2Proof/Machine/Step.lean ====
section
/-! DEFINITION. One step: the next request of the stream, whole (spec/20_memory.md R56, spec/60_exceptions.md R222). -/

namespace Sys2Proof.Machine

/-- One step. Nothing presented: idle (R221). A reset: taken between commands (R230). A command: decoded first (R213) and
executed, or refused if its word is reserved (R76). -/
def step (s : State) : Host.Outcome State Fault Refusal :=
  match s.stream with
  | [] => .next s.idle
  | .reset :: rest => .next (s.withStream rest).takeReset
  | .command p :: rest =>
    match decode p with
    | .ok i => exec i (s.withStream rest)
    | .error why => .refused (.reservedCommand why)

/-- `s` with the command of the table's number `w` presented next, before all else the requester presents (log 1). -/
def State.withFetchWord (s : State) (nbits w : Nat) : State :=
  s.withStream (.command (tableWordPacket nbits w) :: s.stream)

end Sys2Proof.Machine
end

