-- ==== Sys2Proof/Safety.lean ====
section
/-! DEFINITION. What counts as a safe run, in the terms claims use: the duties of a requester (spec/70_reset_and_hazards.md R240)
and the state that they keep (spec/10_state.md R35). -/

namespace Sys2Proof

open Machine

/-- FL2F's operand stands for a number in the fixed-point range, by its exponent field: `e <= 136`, or the one pattern of
-1024.0 (R193). -/
def floatInRange (a : Word) : Bool := decide ((a.extractLsb 30 23).toNat ≤ 136) || a == 0xC4800000

/-- The operation's result is specified while `TV = tv`: duties 1 and 4 of R240, the table of R236 and the list of R211. -/
def Instr.specifiedAt (i : Instr) (tv : Bool) : Bool :=
  match i with
  | .sine _ | .window _ | .mtof _ | .mtofx _ => tv
  | .log2 a => a == 0 || tv
  | .fl2f a => floatInRange a
  | .rmul _ _ | .rmla _ _ _ | .rmls _ _ _ | .init | .i2f _ | .f2i _ | .rand | .seed _ => true

/-- The operation reads or writes `RNG`: RAND and SEED, and no other (R205, R242). -/
def Instr.touchesGenerator : Instr → Bool
  | .rand | .seed _ => true
  | .rmul _ _ | .rmla _ _ _ | .rmls _ _ _ | .init | .sine _ | .window _ | .mtof _ | .mtofx _ | .log2 _ | .i2f _ | .f2i _
  | .fl2f _ => false

/-- The generator word after a sequence of requests, from the RAND, SEED and reset requests among them alone (R203, R231). -/
def generatorAfter (g : Word) : List Request → Word
  | [] => g
  | .reset :: rest => generatorAfter Config.seed0 rest
  | .command p :: rest =>
    match decode p with
    | .ok .rand => generatorAfter (lcgNext g) rest
    | .ok (.seed a) => generatorAfter a rest
    | _ => generatorAfter g rest

/-- The request keeps the duties of R240 when it meets `TV = tv`: no reserved word (duty 3), and a result that is specified
(duties 1 and 4). -/
def Request.isSafe (tv : Bool) : Request → Bool
  | .reset => true
  | .command p =>
    match decode p with
    | .ok i => i.specifiedAt tv
    | .error _ => false

/-- `TV` after the request: INIT sets it, reset clears it, nothing else touches it (R30). -/
def Request.tvAfter (tv : Bool) : Request → Bool
  | .reset => false
  | .command p =>
    match decode p with
    | .ok .init => true
    | _ => tv

/-- A sequence of requests keeps the duties of R240 from `TV = tv` on: a condition on the requests alone. -/
def dutiesKept (tv : Bool) : List Request → Bool
  | [] => true
  | r :: rest => r.isSafe tv && dutiesKept (r.tvAfter tv) rest

/-- While `TV = 1` every table holds what INIT gave it (R35, R121). -/
abbrev Machine.State.TablesLoaded (s : State) : Prop :=
  s.tv = true →
    s.sinet = s.cfg.tabSinet ∧ s.sine2t = s.cfg.tabSine2t ∧ s.windowt = s.cfg.tabWindowt ∧
      s.pitcht = s.cfg.tabPitcht ∧ s.expt = s.cfg.tabExpt ∧ s.logt = s.cfg.tabLogt

/-- The invariant of an instance: its configuration makes it a CORE (R214), and while `TV = 1` its tables are loaded (R35). -/
abbrev Machine.State.Consistent (s : State) : Prop := s.cfg.Valid ∧ s.TablesLoaded

end Sys2Proof
end

