-- ==== Sys2Proof/Certificates/Slice0/Obligations.lean ====
section
/-! DEFINITION. The statements for the provers. Each says which rule of spec/ it formalises; where a clause is the model's choice
and not the spec's, its docstring names the log entry. A statement that gives a next state as a whole record is also the frame:
every field that is not named keeps its value. -/

namespace Sys2Proof.Certificates

/-- The word that the blend of the integer samples `y1` and `y2` by weight `pf` gives, over integers: two rounded products,
added, doubled, kept to 32 bits (R101, R102, R106). -/
def interpolated (y1 y2 pf : Int) : Word :=
  BitVec.ofInt 32 (2 * ((y1 * (2 ^ 31 - 1 - pf) + 2 ^ 31) / 2 ^ 32 + (y2 * pf + 2 ^ 31) / 2 ^ 32))

/-- The exact rational magnitude of a finite binary32 pattern (R193, R196). -/
def floatMagnitude (a : Word) : Rat :=
  if a.toNat / 2 ^ 23 % 256 = 0 then (a.toNat % 2 ^ 23 : Nat) * (2 : Rat) ^ (-149 : Int)
  else (2 ^ 23 + a.toNat % 2 ^ 23 : Nat) * (2 : Rat) ^ (((a.toNat / 2 ^ 23 % 256 : Nat) : Int) - 150)

/-- The integer that FL2F computes from a finite pattern: the scaled magnitude with its fraction dropped, then the sign
(R193). -/
def floatScaled (a : Word) : Int :=
  if a.toNat / 2 ^ 31 = 1 then -⌊floatMagnitude a * 2 ^ 21⌋ else ⌊floatMagnitude a * 2 ^ 21⌋

end Sys2Proof.Certificates

open Sys2Proof Sys2Proof.Machine Sys2Proof.Certificates

/-! ## Decoding and the step -/

/-- A step with a command presented runs the decoded instruction, on the state from whose stream the command is taken
(R56, R213; that the stream is a field of the state is the model's choice, log 1). -/
def Obligations.StepRunsDecodedCommand : Prop :=
  ∀ (s : State) (p : Packet) (rest : List Request) (i : Instr),
    s.stream = .command p :: rest → decode p = .ok i → step s = exec i { s with stream := rest }

/-- A step stops exactly at a reserved packet, by name; every legal command completes (R210), a reset too, and an idle CORE
goes on. That a reserved packet is refused is the model's treatment (R76, U8, log 3). -/
def Obligations.OnlyReservedCommandsStop : Prop :=
  (∀ s : State, (∃ t, step s = .next t) ↔ ∀ p rest, s.stream = .command p :: rest → p.wellFormed = true) ∧
  (∀ (s : State) (p : Packet) (rest : List Request), s.stream = .command p :: rest → p.wellFormed = false →
    ∃ why, step s = .refused (.reservedCommand why))

/-- Decode and encode agree: every instruction's packet decodes to it, and a packet decodes to `i` exactly when, but for the
operand words `i` does not use, it is the packet of `i` (R71, R72, R73). -/
def Obligations.DecodeInvertsEncode : Prop :=
  (∀ i : Instr, decode (encode i) = .ok i) ∧
  (∀ (p : Packet) (i : Instr), decode p = .ok i ↔ p.keep i.operandsUsed = encode i)

/-- Decoding is total: the fourteen words `W0` of R72 select their rows with `A = W1`, `B = W2`, `C = W3`, and every other packet
is reserved (R73, R76). That the reason named tells whether `W0[31:8]` is 0, so that a word failing both tests is named by the
first, is the model's choice (log 3). -/
def Obligations.OpcodeMapDecodes : Prop :=
  (∀ a b c : Word,
    decode ⟨0x10, a, b, c⟩ = .ok (.rmul a b) ∧ decode ⟨0x11, a, b, c⟩ = .ok (.rmla a b c) ∧
    decode ⟨0x12, a, b, c⟩ = .ok (.rmls a b c) ∧ decode ⟨0x20, a, b, c⟩ = .ok .init ∧
    decode ⟨0x30, a, b, c⟩ = .ok (.sine a) ∧ decode ⟨0x31, a, b, c⟩ = .ok (.window a) ∧
    decode ⟨0x40, a, b, c⟩ = .ok (.mtof a) ∧ decode ⟨0x41, a, b, c⟩ = .ok (.mtofx a) ∧
    decode ⟨0x50, a, b, c⟩ = .ok (.log2 a) ∧ decode ⟨0x60, a, b, c⟩ = .ok (.i2f a) ∧
    decode ⟨0x61, a, b, c⟩ = .ok (.f2i a) ∧ decode ⟨0x62, a, b, c⟩ = .ok (.fl2f a) ∧
    decode ⟨0x70, a, b, c⟩ = .ok .rand ∧ decode ⟨0x71, a, b, c⟩ = .ok (.seed a)) ∧
  (∀ p : Packet,
    p.w0 ∉ ([0x10, 0x11, 0x12, 0x20, 0x30, 0x31, 0x40, 0x41, 0x50, 0x60, 0x61, 0x62, 0x70, 0x71] : List Word) →
    decode p = .error (if p.w0.toNat / 256 = 0 then .opcode else .zeroField))

/-- A few packets written out from the encoding decode as the spec lists them (95_test_vectors.md part 2.0). -/
def Obligations.ListedWordsDecode : Prop :=
  decodeTableWord 128 0x00000003000000020000000100000011 = some (.rmla 1 2 3) ∧
  decodeTableWord 128 0x12345678DEADBEEF0000000300000060 = some (.i2f 3) ∧
  decodeTableWord 128 0x00000000000000001234567800000031 = some (.window 0x12345678) ∧
  decodeTableWord 128 0x00000000000000000000000000000020 = some .init ∧
  decodeTableWord 128 0x00000000000000000000000000000013 = none ∧
  decodeTableWord 128 0x00000000000000000000000000000110 = none

/-- The operand words an operation does not use have no effect on the result or the state (R71). -/
def Obligations.UnusedOperandsHaveNoEffect : Prop :=
  ∀ (s : State) (p q : Packet) (rest : List Request) (i : Instr),
    decode p = .ok i → p.keep i.operandsUsed = q.keep i.operandsUsed →
    step { s with stream := .command p :: rest } = step { s with stream := .command q :: rest }

/-- A step serves exactly one request, the first, and leaves the rest in order (R56, R222; the stream is the model's, log 1). -/
def Obligations.OneRequestPerStep : Prop :=
  ∀ s t : State, step s = .next t → t.stream = s.stream.tail ∧ t.cfg = s.cfg

/-- With nothing presented CORE is idle and keeps all its state (R221; log 11). -/
def Obligations.IdleKeepsAllState : Prop :=
  ∀ s : State, s.stream = [] → step s = .next s

/-! ## The multiply primitives -/

/-- RMUL (R101): its encoding; the rounded high word of the product; it never wraps; the corner cases of the rule. -/
def Obligations.RmulRoundsProduct : Prop :=
  (∀ a b c : Word, decode ⟨0x10, a, b, c⟩ = .ok (.rmul a b)) ∧
  (∀ (s : State) (a b : Word),
    exec (.rmul a b) s =
      .next { s with response := .result (BitVec.ofInt 32 ((a.toInt * b.toInt + 2 ^ 31) / 2 ^ 32)) }) ∧
  (∀ a b : Word,
    -2 ^ 62 + 2 ^ 31 ≤ a.toInt * b.toInt ∧ a.toInt * b.toInt ≤ 2 ^ 62 ∧
    (rmul a b).toInt = (a.toInt * b.toInt + 2 ^ 31) / 2 ^ 32 ∧
    -2 ^ 30 + 1 ≤ (rmul a b).toInt ∧ (rmul a b).toInt ≤ 2 ^ 30 ∧
    (a.toInt * b.toInt % 2 ^ 32 = 2 ^ 31 → (rmul a b).toInt * 2 ^ 32 = a.toInt * b.toInt + 2 ^ 31) ∧
    rmul a b = rmul b a ∧ rmul a 0 = 0 ∧ rmul 0 b = 0 ∧ rmul a 1 = 0 ∧
    rmul a 0xFFFFFFFF = if a = 0x80000000 then 1 else 0) ∧
  rmul 0x80000000 0x7FFFFFFF = 0xC0000001 ∧ rmul 0x80000000 0x80000000 = 0x40000000 ∧
  rmul 0x00010000 0x00008000 = 1 ∧ rmul 0xFFFF0000 0x00008000 = 0 ∧ rmul 0x12345678 0x9ABCDEF0 = 0xF8CC93D6

/-- RMLA (R102): its encoding; the accumulator joins the 64-bit intermediate; the two forms of the rule agree; it wraps and does not saturate;
the corner cases of the rule. -/
def Obligations.RmlaAccumulates : Prop :=
  (∀ a b c : Word, decode ⟨0x11, a, b, c⟩ = .ok (.rmla a b c)) ∧
  (∀ (s : State) (a b c : Word),
    exec (.rmla a b c) s =
      .next { s with response := .result (BitVec.ofInt 32 ((c.toInt * 2 ^ 32 + a.toInt * b.toInt + 2 ^ 31) / 2 ^ 32)) }) ∧
  (∀ a b c : Word,
    rmla a b c = BitVec.ofInt 32 (c.toInt + (a.toInt * b.toInt + 2 ^ 31) / 2 ^ 32) ∧
    rmla a b c = BitVec.ofInt 32 (c.toInt + (rmul a b).toInt) ∧
    -2 ^ 31 - 2 ^ 30 + 1 ≤ c.toInt + (rmul a b).toInt ∧ c.toInt + (rmul a b).toInt ≤ 2 ^ 31 + 2 ^ 30 - 1 ∧
    rmla a b 0 = rmul a b ∧ rmla a 0 c = c ∧ rmla 0 b c = c) ∧
  rmla 0x7FFFFFFF 0x7FFFFFFF 0x7FFFFFFF = 0xBFFFFFFE ∧ rmla 0x12345678 0x9ABCDEF0 0x0BADF00D = 0x047A83E3

/-- RMLS (R103): its encoding; the difference is rounded once; it is `C` minus RMUL but for an exact tie, where it is one more; it wraps; the
corner cases of the rule. -/
def Obligations.RmlsSubtracts : Prop :=
  (∀ a b c : Word, decode ⟨0x12, a, b, c⟩ = .ok (.rmls a b c)) ∧
  (∀ (s : State) (a b c : Word),
    exec (.rmls a b c) s =
      .next { s with response := .result (BitVec.ofInt 32 ((c.toInt * 2 ^ 32 - a.toInt * b.toInt + 2 ^ 31) / 2 ^ 32)) }) ∧
  (∀ a b c : Word,
    rmls a b c = BitVec.ofInt 32 (c.toInt + (-(a.toInt * b.toInt) + 2 ^ 31) / 2 ^ 32) ∧
    rmls a b c =
      BitVec.ofInt 32 (c.toInt - (rmul a b).toInt + if a.toInt * b.toInt % 2 ^ 32 = 2 ^ 31 then 1 else 0) ∧
    rmls a 0 c = c ∧ rmls 0 b c = c) ∧
  rmls 0x80000000 0x7FFFFFFF 0x80000000 = 0xC0000000 ∧ rmls 0x80000000 0x80000000 0x80000000 = 0x40000000 ∧
  rmls 0x40000000 2 0 = 0 ∧ rmul 0x40000000 2 = 1 ∧ rmls 0x12345678 0x9ABCDEF0 0x0BADF00D = 0x12E15C37

/-- The sign table of R104, and the symmetry of RMUL about zero but for ties. -/
def Obligations.MultiplySignTable : Prop :=
  ∀ a b : Word,
    (0 < a.toInt → 0 < b.toInt → 0 ≤ (rmul a b).toInt ∧ (rmul a b).toInt ≤ 0x3FFFFFFF) ∧
    (a.toInt < 0 → b.toInt < 0 → 0 ≤ (rmul a b).toInt ∧ (rmul a b).toInt ≤ 0x40000000) ∧
    (a.toInt * b.toInt < 0 →
      -0x3FFFFFFF ≤ (rmul a b).toInt ∧ (rmul a b).toInt ≤ 0 ∧
      (rmul a b).toInt =
        if a.toInt * b.toInt % 2 ^ 32 = 2 ^ 31 then -(-(a.toInt * b.toInt) / 2 ^ 32)
        else -((-(a.toInt * b.toInt) + 2 ^ 31) / 2 ^ 32)) ∧
    (a.toInt * b.toInt = 0 → rmul a b = 0) ∧
    (a ≠ 0x80000000 → a.toInt * b.toInt % 2 ^ 32 ≠ 2 ^ 31 → rmul (-a) b = -rmul a b)

/-- What the blend computes, exactly and within its bounds (R106, R107), for weights 0 to `MAXW`: the sum `r2`, its distance from
the weighted sum, the even result, less than 3 from the ideal interpolation, and the case of weight 0. R107 says that an even
sample of weight 0 comes back as it is; the rule's own pseudocode does not give that for -2^31, which comes back two higher
(log 24): that clause excepts it. -/
def Obligations.BlendWithinBounds : Prop :=
  ∀ y1 y2 pf : Word, pf.toNat ≤ 0x7FFFFFFF →
    blend y1 y2 pf = interpolated y1.toInt y2.toInt pf.toNat ∧
    (blendSum y1 y2 pf).toInt =
      (y1.toInt * (2 ^ 31 - 1 - pf.toNat) + 2 ^ 31) / 2 ^ 32 + (y2.toInt * pf.toNat + 2 ^ 31) / 2 ^ 32 ∧
    y1.toInt * (2 ^ 31 - 1 - pf.toNat) + y2.toInt * pf.toNat - 2 ^ 32 < (blendSum y1 y2 pf).toInt * 2 ^ 32 ∧
    (blendSum y1 y2 pf).toInt * 2 ^ 32 ≤ y1.toInt * (2 ^ 31 - 1 - pf.toNat) + y2.toInt * pf.toNat + 2 ^ 32 ∧
    (blend y1 y2 pf).toNat % 2 = 0 ∧
    |2 * (blendSum y1 y2 pf).toInt * (2 ^ 31 - 1) -
        (y1.toInt * (2 ^ 31 - 1) + (y2.toInt - y1.toInt) * pf.toNat)| < 3 * (2 ^ 31 - 1) ∧
    (y1 ≠ 0x80000000 →
      (blend y1 y2 0).toInt =
        if y1.toInt % 2 = 0 then y1.toInt else if 0 < y1.toInt then y1.toInt - 1 else y1.toInt + 1)

/-- When the final shift of a blend keeps every bit (R108): exactly when `r2` lies in -2^30 to 2^30 - 1; the negative side never
leaves it; it cannot leave it when no sample is 2^31 - 1; and with the weights that SINE, WINDOW, MTOF and MTOFX compute it
never leaves it, whatever the samples are. -/
def Obligations.BlendShiftKeepsEveryBit : Prop :=
  (∀ y1 y2 pf : Word,
    (blend y1 y2 pf).toInt = 2 * (blendSum y1 y2 pf).toInt ↔
      -2 ^ 30 ≤ (blendSum y1 y2 pf).toInt ∧ (blendSum y1 y2 pf).toInt ≤ 2 ^ 30 - 1) ∧
  (∀ y1 y2 pf : Word, pf.toNat ≤ 0x7FFFFFFF → -2 ^ 30 ≤ (blendSum y1 y2 pf).toInt) ∧
  (∀ y1 y2 pf : Word, pf.toNat ≤ 0x7FFFFFFF → y1.toInt ≤ 2 ^ 31 - 2 → y2.toInt ≤ 2 ^ 31 - 2 →
    (blendSum y1 y2 pf).toInt ≤ 2 ^ 30 - 1) ∧
  (∀ y1 y2 a : Word,
    (blend y1 y2 (sineWeight a)).toInt = 2 * (blendSum y1 y2 (sineWeight a)).toInt ∧
    (blend y1 y2 (windowWeight a)).toInt = 2 * (blendSum y1 y2 (windowWeight a)).toInt ∧
    (blend y1 y2 (pitchWeight a)).toInt = 2 * (blendSum y1 y2 (pitchWeight a)).toInt)

/-! ## The tables -/

/-- INIT (R121): its encoding; all six tables, whole, from the configuration, and `TV`; no result word; again when the tables are loaded, it
changes nothing but the response; the rule's example from reset. -/
def Obligations.InitLoadsTables : Prop :=
  (∀ a b c : Word, decode ⟨0x20, a, b, c⟩ = .ok .init) ∧
  (∀ s : State,
    exec .init s =
      .next { s with
        sinet := s.cfg.tabSinet, sine2t := s.cfg.tabSine2t, windowt := s.cfg.tabWindowt,
        pitcht := s.cfg.tabPitcht, expt := s.cfg.tabExpt, logt := s.cfg.tabLogt,
        tv := true, response := .completion }) ∧
  (∀ s : State, s.tv = true → s.TablesLoaded → exec .init s = .next { s with response := .completion }) ∧
  (∃ t : State, exec .init State.reset = .next t ∧ t.tv = true ∧ t.sine2t[0] = t.sine2t[4096] ∧ t.rng = 0x000056CE)

/-- INIT neither reads nor writes the generator word: a RAND after an INIT returns what it would have returned without it
(R122). -/
def Obligations.InitLeavesGenerator : Prop :=
  ∀ s : State,
    (∃ t u v : State, exec .init s = .next t ∧ exec .rand t = .next u ∧ exec .rand s = .next v ∧
      t.rng = s.rng ∧ u.response = v.response ∧ u.rng = v.rng) ∧
    (∀ (g : Word) (t : State), exec .init s = .next t → exec .init { s with rng := g } = .next { t with rng := g })

/-- Only INIT writes a table or `TV`, only RAND and SEED write `RNG`, and no operation writes the configuration or the stream: the
column "written by" of R23 (R52, R205), for every operation. -/
def Obligations.OperationsWriteOnlyTheirState : Prop :=
  ∀ (i : Instr) (s t : State), exec i s = .next t →
    (i ≠ .init → t.sinet = s.sinet ∧ t.sine2t = s.sine2t ∧ t.windowt = s.windowt ∧ t.pitcht = s.pitcht ∧
      t.expt = s.expt ∧ t.logt = s.logt ∧ t.tv = s.tv) ∧
    (i.touchesGenerator = false → t.rng = s.rng) ∧ t.cfg = s.cfg ∧ t.stream = s.stream

/-- The invariant of an instance is kept by every step: its configuration makes it a CORE (R214), and while `TV = 1` every table
holds what INIT gave it (R35). -/
def Obligations.StepKeepsConsistent : Prop :=
  ∀ s t : State, s.Consistent → step s = .next t → t.Consistent

/-- The machine right after reset meets the invariant; its configuration is the reference one (R123 to R128; log 8). -/
def Obligations.ResetIsConsistent : Prop :=
  State.reset.Consistent

/-- After INIT every table element keeps the value INIT gave it until reset, over any run without a reset (R35). -/
def Obligations.TablesPersistUntilReset : Prop :=
  ∀ (k : Nat) (s t : State), s.tv = true → (∀ r ∈ s.stream.take k, r ≠ .reset) → s.TablesLoaded →
    Sys2Proof.core.run k s = .next t →
    t.tv = true ∧ t.sinet = s.cfg.tabSinet ∧ t.sine2t = s.cfg.tabSine2t ∧ t.windowt = s.cfg.tabWindowt ∧
      t.pitcht = s.cfg.tabPitcht ∧ t.expt = s.cfg.tabExpt ∧ t.logt = s.cfg.tabLogt

/-- Every index an operation computes, with the next one where it reads two, lies inside its table, for every operand
(R52, R53, R165). -/
def Obligations.EveryIndexInRange : Prop :=
  ∀ a : Word,
    0 ≤ sineIndex a ∧ sineIndex a + 1 ≤ 4096 ∧ 0 ≤ windowIndex a ∧ windowIndex a + 1 ≤ 1024 ∧
    64 ≤ pitchIndex (ssat 28 a) ∧ pitchIndex (ssat 28 a) ≤ 191 ∧
    0 ≤ pitchIndex (ssat 29 a) ∧ pitchIndex (ssat 29 a) + 1 ≤ 256 ∧ logMantissa a ≤ 255

/-- While `TV = 0` the table readers answer some word and change no other state of CORE (R236). That the word is free, and drawn
by advancing the model's counter, is the model's choice (logs 4, 6); nothing is said of its value. -/
def Obligations.TableReadersBeforeInit : Prop :=
  ∀ s : State, s.tv = false → ∀ a : Word,
    (∃ w, exec (.sine a) s = .next { s with response := .result w, freeCount := s.freeCount + 1 }) ∧
    (∃ w, exec (.window a) s = .next { s with response := .result w, freeCount := s.freeCount + 1 }) ∧
    (∃ w, exec (.mtof a) s = .next { s with response := .result w, freeCount := s.freeCount + 1 }) ∧
    (∃ w, exec (.mtofx a) s = .next { s with response := .result w, freeCount := s.freeCount + 1 }) ∧
    (a ≠ 0 → ∃ w, exec (.log2 a) s = .next { s with response := .result w, freeCount := s.freeCount + 1 })

/-- While `TV = 0` no response and no state but the tables themselves depends on what the tables hold (R232); the response
of a table reader there is the model's free word (log 4). -/
def Obligations.TablesUnobservedBeforeInit : Prop :=
  ∀ (i : Instr) (s s' : State), s.tv = false →
    s' = { s with
      sinet := s'.sinet, sine2t := s'.sine2t, windowt := s'.windowt, pitcht := s'.pitcht, expt := s'.expt, logt := s'.logt } →
    ∃ t t' : State, exec i s = .next t ∧ exec i s' = .next t' ∧ t.response = t'.response ∧ t.rng = t'.rng ∧ t.tv = t'.tv ∧
      t.freeCount = t'.freeCount ∧ (i = .init → t = t')

/-! ## Interpolators -/

/-- SINE while `TV = 1`: index and weight are the top 12 and the low 20 bits of the phase; both samples exist; the result is
their interpolation (R141). -/
def Obligations.SineInterpolates : Prop :=
  ∀ (s : State) (a : Word), s.tv = true →
    ∃ y1 y2 : Word, s.sine2t[a.toNat / 2 ^ 20]? = some y1 ∧ s.sine2t[a.toNat / 2 ^ 20 + 1]? = some y2 ∧
      exec (.sine a) s =
        .next { s with response := .result (interpolated y1.toInt y2.toInt (a.toNat % 2 ^ 20 * 2 ^ 11 : Nat)) }

/-- WINDOW while `TV = 1`: index and weight are the top 10 and the low 22 bits of the phase; both samples exist, and enter
times 2^16; the result is their interpolation (R57, R142). -/
def Obligations.WindowInterpolates : Prop :=
  ∀ (s : State) (a : Word), s.tv = true →
    ∃ e1 e2 : Half, s.windowt[a.toNat / 2 ^ 22]? = some e1 ∧ s.windowt[a.toNat / 2 ^ 22 + 1]? = some e2 ∧
      exec (.window a) s =
        .next { s with
          response := .result (interpolated (e1.toInt * 2 ^ 16) (e2.toInt * 2 ^ 16) (a.toNat % 2 ^ 22 * 2 ^ 9 : Nat)) }

/-- Just below phase 2^32 SINE is within one table step and 4 units of its value at phase 0 (R145(b)): the 4 are for the
rounding of the two blends, which the rule does not count (DEDUCED from R107; log 24). -/
def Obligations.SineContinuousAtWrap : Prop :=
  ∀ s : State, s.Consistent → s.tv = true →
    ∃ r r0 : Word, exec (.sine 0xFFFFFFFF) s = .next { s with response := .result r } ∧
      exec (.sine 0) s = .next { s with response := .result r0 } ∧
      |r.toInt - r0.toInt| ≤ |s.sine2t[4095].toInt - s.sine2t[0].toInt| + 4

/-- The window's boundary (R146): at phase 0 the result is sample 0, widened; at the last phase it is the blend of the last
sample and sample 0. R146 says the first of every table; the blend does not give it for a sample of -2^15 (log 24), which is
excepted. -/
def Obligations.WindowBoundary : Prop :=
  ∀ s : State, s.Consistent → s.tv = true →
    (s.windowt[0] ≠ 0x8000 →
      exec (.window 0) s = .next { s with response := .result (BitVec.ofInt 32 (s.windowt[0].toInt * 2 ^ 16)) }) ∧
    exec (.window 0xFFFFFFFF) s =
      .next { s with
        response := .result (interpolated (s.windowt[1023].toInt * 2 ^ 16) (s.windowt[0].toInt * 2 ^ 16) 0x7FFFFE00) }

/-! ## Pitch conversion -/

/-- MTOF while `TV = 1`: the operand is clamped to 28 bits, the index lies in 64 to 191, both entries exist and are read as
signed, and the result is their interpolation (R161, R163, R164, R165). -/
def Obligations.MtofInterpolates : Prop :=
  ∀ (s : State) (a : Word) (p : Int), s.tv = true → p = min (max a.toInt (-2 ^ 27)) (2 ^ 27 - 1) →
    64 ≤ 128 + p / 2 ^ 21 ∧ 128 + p / 2 ^ 21 ≤ 191 ∧
    ∃ y1 y2 : Word, s.pitcht[(128 + p / 2 ^ 21).toNat]? = some y1 ∧ s.pitcht[(128 + p / 2 ^ 21).toNat + 1]? = some y2 ∧
      exec (.mtof a) s = .next { s with response := .result (interpolated y1.toInt y2.toInt (p % 2 ^ 21 * 2 ^ 10)) }

/-- MTOFX while `TV = 1`: as MTOF with the operand clamped to 29 bits and the index in 0 to 255 (R162, R163, R164, R165). -/
def Obligations.MtofxInterpolates : Prop :=
  ∀ (s : State) (a : Word) (p : Int), s.tv = true → p = min (max a.toInt (-2 ^ 28)) (2 ^ 28 - 1) →
    0 ≤ 128 + p / 2 ^ 21 ∧ 128 + p / 2 ^ 21 ≤ 255 ∧
    ∃ y1 y2 : Word, s.pitcht[(128 + p / 2 ^ 21).toNat]? = some y1 ∧ s.pitcht[(128 + p / 2 ^ 21).toNat + 1]? = some y2 ∧
      exec (.mtofx a) s = .next { s with response := .result (interpolated y1.toInt y2.toInt (p % 2 ^ 21 * 2 ^ 10)) }

/-- The two variants differ only in the saturation range (R166), while `TV = 1`: MTOF is one function of the pitch clamped to 28
bits and MTOFX the same function of the pitch clamped to 29 bits, with one table, offset, step and weight; so on the standard
range they agree. -/
def Obligations.MtofxAgreesOnStandardRange : Prop :=
  ∀ s : State, s.tv = true →
    (∃ f : Int → Word,
      (∀ p : Int, -2 ^ 28 ≤ p → p ≤ 2 ^ 28 - 1 →
        ∃ y1 y2 : Word, s.pitcht[(128 + p / 2 ^ 21).toNat]? = some y1 ∧ s.pitcht[(128 + p / 2 ^ 21).toNat + 1]? = some y2 ∧
          f p = interpolated y1.toInt y2.toInt (p % 2 ^ 21 * 2 ^ 10)) ∧
      (∀ a : Word,
        exec (.mtof a) s = .next { s with response := .result (f (min (max a.toInt (-2 ^ 27)) (2 ^ 27 - 1))) } ∧
        exec (.mtofx a) s = .next { s with response := .result (f (min (max a.toInt (-2 ^ 28)) (2 ^ 28 - 1))) })) ∧
    (∀ a : Word, -2 ^ 27 ≤ a.toInt → a.toInt ≤ 2 ^ 27 - 1 → exec (.mtofx a) s = exec (.mtof a) s)

/-- While `TV = 1` a pitch outside the variant's range gives the result of the nearest pitch in range (R161, R162, R169). -/
def Obligations.PitchOperandSaturates : Prop :=
  ∀ (s : State) (a : Word), s.tv = true →
    (0x07FFFFFF ≤ a.toInt → exec (.mtof a) s = exec (.mtof 0x07FFFFFF) s) ∧
    (a.toInt ≤ -2 ^ 27 → exec (.mtof a) s = exec (.mtof 0xF8000000) s) ∧
    (0x0FFFFFFF ≤ a.toInt → exec (.mtofx a) s = exec (.mtofx 0x0FFFFFFF) s) ∧
    (a.toInt ≤ -2 ^ 28 → exec (.mtofx a) s = exec (.mtofx 0xF0000000) s)

/-- Every pitch gives a frequency within 2 units of the range that the table spans over the variant's indices: the 2 are for
a blend's rounding, which the rule does not count (R169; the tolerance is DEDUCED from R107; log 24), and never negative (R164). -/
def Obligations.PitchResultInTableRange : Prop :=
  ∀ (s : State) (a : Word), s.Consistent → s.tv = true →
    (∃ r : Word, exec (.mtof a) s = .next { s with response := .result r } ∧ 0 ≤ r.toInt ∧
      s.pitcht[64].toInt - 2 ≤ r.toInt ∧ r.toInt ≤ s.pitcht[192].toInt + 2) ∧
    (∃ r : Word, exec (.mtofx a) s = .next { s with response := .result r } ∧ 0 ≤ r.toInt ∧
      s.pitcht[0].toInt - 2 ≤ r.toInt ∧ r.toInt ≤ s.pitcht[256].toInt + 2)

/-- A higher pitch never gives a frequency more than 2 lower, in both variants and over all operands (R167, C5). -/
def Obligations.FrequencyRisesWithPitch : Prop :=
  ∀ (s : State) (a1 a2 : Word), s.Consistent → s.tv = true → a1.toInt < a2.toInt →
    (∃ r1 r2 : Word, exec (.mtof a1) s = .next { s with response := .result r1 } ∧
      exec (.mtof a2) s = .next { s with response := .result r2 } ∧ r1.toInt - 2 ≤ r2.toInt) ∧
    (∃ r1 r2 : Word, exec (.mtofx a1) s = .next { s with response := .result r1 } ∧
      exec (.mtofx a2) s = .next { s with response := .result r2 } ∧ r1.toInt - 2 ≤ r2.toInt)

/-- Pitch zero gives the table's centre entry, one lower when it is odd; while `pitcht` holds the reference table both variants
give 0x01C20D2E (R168). -/
def Obligations.PitchZeroIsCentre : Prop :=
  (∀ s : State, s.Consistent → s.tv = true →
    ∃ r : Word, exec (.mtof 0) s = .next { s with response := .result r } ∧
      exec (.mtofx 0) s = .next { s with response := .result r } ∧
      r.toInt = s.pitcht[128].toInt - s.pitcht[128].toInt % 2) ∧
  (∀ s : State, s.tv = true → s.pitcht = Reference.config.tabPitcht →
    exec (.mtof 0) s = .next { s with response := .result 0x01C20D2E } ∧
    exec (.mtofx 0) s = .next { s with response := .result 0x01C20D2E })

/-- The reference pitch table is the formula of R126: the integer part of `2^32 * 440 * 2^((i - 133) / 12) / 48000`, at most
`MAXW` (the spec's own default, D15; log 8). -/
def Obligations.ReferencePitchFormula : Prop :=
  ∀ i : Fin 257,
    (Reference.config.tabPitcht[i.val].toNat : Int) =
      min ⌊(2 : ℝ) ^ 32 * 440 * (2 : ℝ) ^ (((i.val : ℝ) - 133) / 12) / 48000⌋ 0x7FFFFFFF

/-! ## The logarithm -/

/-- LOG2 (R181): the sentinel for 0, in every state; for any other operand while `TV = 1` the octave and the table's element for
the eight bits below the highest set bit, at most 67108832. -/
def Obligations.Log2LooksUpMantissa : Prop :=
  (∀ s : State, exec (.log2 0) s = .next { s with response := .result 0x80000000 }) ∧
  (∀ (s : State) (a : Word) (n : Nat), s.tv = true → 2 ^ n ≤ a.toNat → a.toNat < 2 ^ (n + 1) →
    ∃ e : Half, s.logt[a.toNat * 2 ^ (31 - n) / 2 ^ 23 % 256]? = some e ∧
      exec (.log2 a) s = .next { s with response := .result (BitVec.ofNat 32 (2 ^ 21 * n + 2 ^ 5 * e.toNat)) } ∧
      2 ^ 21 * n + 2 ^ 5 * e.toNat ≤ 67108832)

/-- The properties of R183, and R181's corner case that the logarithm of a power of two is exact: the logarithm of 1 is 0; for
rising operands it does not fall, and it rises between octaves and between intervals whose entries differ; operands of one octave and interval give equal results. -/
def Obligations.Log2DoesNotFall : Prop :=
  (∀ s : State, s.Consistent → s.tv = true →
    exec (.log2 1) s = .next { s with response := .result 0 } ∧
    (∀ n : Nat, n < 32 →
      exec (.log2 (BitVec.ofNat 32 (2 ^ n))) s = .next { s with response := .result (BitVec.ofNat 32 (2 ^ 21 * n)) }) ∧
    exec (.log2 0x200) s = .next { s with response := .result 0x01200000 } ∧
    exec (.log2 0x201) s = .next { s with response := .result 0x01200000 }) ∧
  (∀ (s : State) (a1 a2 : Word), s.Consistent → s.tv = true → 0 < a1.toNat → a1.toNat < a2.toNat →
    ∃ r1 r2 : Word, exec (.log2 a1) s = .next { s with response := .result r1 } ∧
      exec (.log2 a2) s = .next { s with response := .result r2 } ∧
      0 ≤ r1.toInt ∧ r1.toInt ≤ r2.toInt ∧
      (Nat.log2 a1.toNat ≠ Nat.log2 a2.toNat → r1.toInt < r2.toInt) ∧
      (s.logt[logMantissa a1]? ≠ s.logt[logMantissa a2]? → r1.toInt < r2.toInt) ∧
      (Nat.log2 a1.toNat = Nat.log2 a2.toNat → logMantissa a1 = logMantissa a2 → r1 = r2))

/-- The reference log table is the formula of R128: the integer part of `65536 * log2(1 + m / 256)` (the spec's own default, D16;
log 8). -/
def Obligations.ReferenceLogFormula : Prop :=
  ∀ m : Fin 256,
    (Reference.config.tabLogt[m.val].toNat : Int) = ⌊65536 * Real.logb 2 (1 + (m.val : ℝ) / 256)⌋

/-- With the reference table LOG2 never exceeds the true logarithm and falls short of it by less than
`log2(257/256) + 2^-16` (R182). -/
def Obligations.ReferenceLog2Accuracy : Prop :=
  ∀ (s : State) (a : Word), s.tv = true → s.logt = Reference.config.tabLogt → a ≠ 0 →
    ∃ r : Word, exec (.log2 a) s = .next { s with response := .result r } ∧
      (r.toInt : ℝ) / 2 ^ 21 ≤ Real.logb 2 a.toNat ∧
      Real.logb 2 a.toNat < (r.toInt : ℝ) / 2 ^ 21 + Real.logb 2 (257 / 256) + 1 / 2 ^ 16

/-! ## Conversions -/

/-- I2F (R191): its encoding; the shift left by 21, which stands for the integer exactly from -1024 to 1023 and wraps outside; the rule's
examples. -/
def Obligations.I2fShiftsAndWraps : Prop :=
  (∀ a b c : Word, decode ⟨0x60, a, b, c⟩ = .ok (.i2f a)) ∧
  (∀ (s : State) (a : Word),
    exec (.i2f a) s = .next { s with response := .result (BitVec.ofInt 32 (a.toInt * 2 ^ 21)) }) ∧
  (∀ a : Word,
    ((i2f a).toInt = a.toInt * 2 ^ 21 ↔ -1024 ≤ a.toInt ∧ a.toInt ≤ 1023) ∧
    (i2f a).toNat = a.toNat % 2 ^ 11 * 2 ^ 21) ∧
  i2f 0x400 = 0x80000000 ∧ i2f 0x7FFFFFFF = 0xFFE00000 ∧ i2f 0x80000000 = 0 ∧ i2f 3 = 0x00600000

/-- F2I (R192): its encoding; the floor, in -1024 to 1023; the rule's examples. -/
def Obligations.F2iRoundsDown : Prop :=
  (∀ a b c : Word, decode ⟨0x61, a, b, c⟩ = .ok (.f2i a)) ∧
  (∀ (s : State) (a : Word),
    exec (.f2i a) s = .next { s with response := .result (BitVec.ofInt 32 (a.toInt / 2 ^ 21)) }) ∧
  (∀ a : Word, (f2i a).toInt = a.toInt / 2 ^ 21 ∧ -1024 ≤ (f2i a).toInt ∧ (f2i a).toInt ≤ 1023) ∧
  f2i 0xFFFFFFFF = 0xFFFFFFFF ∧ f2i 0xFFB00000 = 0xFFFFFFFD ∧ f2i 0x001FFFFF = 0 ∧ f2i 0x7FFFFFFF = 0x000003FF ∧
  f2i 0x80000000 = 0xFFFFFC00 ∧ f2i 0x00500000 = 2

/-- FL2F (R193) against the exact rational value of its operand: the scaled value truncated toward zero where it fits a word,
and otherwise, and for an infinity or a not-a-number, some word, which is the same in every state (R242). Nothing is said of
that word's value: the model takes it as free (log 5). -/
def Obligations.Fl2fTruncatesTowardZero : Prop :=
  ∀ a : Word,
    (a.toNat / 2 ^ 23 % 256 ≠ 255 → -2 ^ 31 ≤ floatScaled a → floatScaled a ≤ 2 ^ 31 - 1 →
      ∀ s : State, exec (.fl2f a) s = .next { s with response := .result (BitVec.ofInt 32 (floatScaled a)) }) ∧
    (a.toNat / 2 ^ 23 % 256 = 255 ∨ floatScaled a < -2 ^ 31 ∨ 2 ^ 31 - 1 < floatScaled a →
      ∃ w, ∀ s : State, exec (.fl2f a) s = .next { s with response := .result w })

/-- The range of FL2F by its exponent field (R193): the rule gives a result exactly for `e <= 136` and for the pattern of
-1024.0, and it is 0 for `e <= 105`. Where the rule gives none, the word is the operand's free one (log 5). -/
def Obligations.Fl2fRangeByExponent : Prop :=
  ∀ (s : State) (a : Word),
    ((∃ r, fl2f a = some r) ↔ a.toNat / 2 ^ 23 % 256 ≤ 136 ∨ a = 0xC4800000) ∧
    (∀ r, fl2f a = some r → exec (.fl2f a) s = .next { s with response := .result r }) ∧
    (fl2f a = none → exec (.fl2f a) s = .next { s with response := .result (Config.freeFloat a) }) ∧
    (a.toNat / 2 ^ 23 % 256 ≤ 105 → exec (.fl2f a) s = .next { s with response := .result 0 }) ∧
    exec (.fl2f 0xC4800000) s = .next { s with response := .result 0x80000000 }

/-- The round trip of R194, for every word, in both orders. -/
def Obligations.FixedPointRoundTrip : Prop :=
  (∀ x : Word,
    i2f (f2i x) = x &&& 0xFFE00000 ∧ (i2f (f2i x)).toInt = 2 ^ 21 * (x.toInt / 2 ^ 21) ∧
    i2f (f2i (i2f (f2i x))) = i2f (f2i x)) ∧
  (∀ n : Word,
    (f2i (i2f n) = n ↔ -1024 ≤ n.toInt ∧ n.toInt ≤ 1023) ∧ f2i (i2f n) = (n.extractLsb' 0 11).signExtend 32) ∧
  i2f (f2i 0x00200001) = 0x00200000 ∧ f2i 0xFFDFFFFF = 0xFFFFFFFE ∧ i2f (f2i 0xFFDFFFFF) = 0xFFC00000

/-! ## The generator -/

/-- RAND (R201): its encoding; the next state is kept and returned whole, and is never the old one; the rule's examples. -/
def Obligations.RandAdvancesGenerator : Prop :=
  (∀ a b c : Word, decode ⟨0x70, a, b, c⟩ = .ok .rand) ∧
  (∀ s : State, ∃ r : Word,
    r = BitVec.ofNat 32 (907633515 + 196314165 * s.rng.toNat) ∧ r ≠ s.rng ∧
    exec .rand s = .next { s with rng := r, response := .result r }) ∧
  (∀ s : State, s.rng = 0 → ∃ t : State, exec .rand s = .next t ∧ t.response = .result 0x3619636B) ∧
  (∃ t : State, exec .rand State.reset = .next t ∧ t.response = .result 0xEEF79411 ∧ t.rng = 0xEEF79411)

/-- SEED (R202): its encoding; the operand becomes the state itself, with no result word; the next RAND returns its successor; seeding with
0x000056CE restores the reset state of the generator; the rule's example. -/
def Obligations.SeedSetsGenerator : Prop :=
  (∀ a b c : Word, decode ⟨0x71, a, b, c⟩ = .ok (.seed a)) ∧
  (∀ (s : State) (a : Word), exec (.seed a) s = .next { s with rng := a, response := .completion }) ∧
  (∀ (s : State) (a : Word), ∃ t u : State, exec (.seed a) s = .next t ∧ exec .rand t = .next u ∧
    u.response = .result (BitVec.ofNat 32 (907633515 + 196314165 * a.toNat))) ∧
  (∀ s : State, ∃ t : State, exec (.seed 0x000056CE) s = .next t ∧ t.rng = State.reset.rng) ∧
  (∀ s : State, ∃ t u : State, exec (.seed 1) s = .next t ∧ exec .rand t = .next u ∧ u.response = .result 0x41CCE7A0)

/-- The generator has the full period: `k` RAND commands bring the generator word back exactly when 2^32 divides `k`, from every
state; and bit `j` is back whenever 2^(j+1) divides `k` (R204). -/
def Obligations.GeneratorHasFullPeriod : Prop :=
  ∀ (s : State) (k : Nat),
    ∃ t : State, Sys2Proof.core.run k { s with stream := List.replicate k (.command (encode .rand)) } = .next t ∧
      (t.rng = s.rng ↔ 2 ^ 32 ∣ k) ∧ (∀ j : Nat, j < 32 → 2 ^ (j + 1) ∣ k → t.rng.getLsbD j = s.rng.getLsbD j)

/-- After any run the generator word is determined by its value before and by the RAND, SEED and reset requests served, and by
nothing else issued in between (R203, R205). -/
def Obligations.GeneratorDependsOnItsRequestsAlone : Prop :=
  ∀ (k : Nat) (s t : State), Sys2Proof.core.run k s = .next t → t.rng = generatorAfter s.rng (s.stream.take k)

/-! ## Reset -/

/-- The reset value of the generator word, right after reset and after a reset request, and the first RAND from it (R231). -/
def Obligations.ResetValueOfGenerator : Prop :=
  State.reset.rng = 0x000056CE ∧ State.reset.rng.toNat = 22222 ∧
  (∀ (s : State) (rest : List Request), s.stream = .reset :: rest →
    ∃ t u : State, step s = .next t ∧ t.rng = 0x000056CE ∧ exec .rand t = .next u ∧ u.response = .result 0xEEF79411)

/-- A reset request: the generator word and `TV` return to their reset values, the configuration stays, CORE is ready for the next
request (R230 to R233), and the supply of free values goes on (the model's, log 6). -/
def Obligations.ResetRestoresInitialState : Prop :=
  State.reset.tv = false ∧
  (∀ (s : State) (rest : List Request), s.stream = .reset :: rest →
    ∃ t : State, step s = .next t ∧ t.rng = 0x000056CE ∧ t.tv = false ∧ t.cfg = s.cfg ∧ t.stream = rest ∧
      t.freeCount = s.freeCount)

/-! ## The machine as a whole -/

/-- Every operation answers: INIT and SEED a completion without data, the other twelve one result word (R74, R210). -/
def Obligations.EveryOperationResponds : Prop :=
  ∀ (i : Instr) (s : State), ∃ t : State, exec i s = .next t ∧
    ((t.response = .completion ∧ (i = .init ∨ ∃ a, i = .seed a)) ∨
      ((∃ r, t.response = .result r) ∧ i ≠ .init ∧ ∀ a, i ≠ .seed a))

/-- A result is unspecified exactly in the two cases that R211 lists. In all others no free value is given; a table read while
`TV = 0` gives the next free word, FL2F out of range the operand's own (the model's choices, logs 4, 5, 6); and in both nothing
else of CORE changes. Nothing is said of the free words' values. -/
def Obligations.FreeExactlyWhereUnspecified : Prop :=
  ∀ (i : Instr) (s t : State), exec i s = .next t →
    (i.specifiedAt s.tv = true →
      t.freeCount = s.freeCount ∧ ∀ a, i = .fl2f a → ∃ r, fl2f a = some r ∧ t.response = .result r) ∧
    (i.specifiedAt s.tv = false →
      (s.tv = false ∧ (∀ a, i ≠ .fl2f a) ∧
        t = { s with response := .result (Config.freeWord s.freeCount), freeCount := s.freeCount + 1 }) ∨
      (∃ a, i = .fl2f a ∧ fl2f a = none ∧ t = { s with response := .result (Config.freeFloat a) }))

/-- No operation reads the result of an earlier one: the last response changes nothing (R20). -/
def Obligations.ResponseIsNeverRead : Prop :=
  ∀ (i : Instr) (s : State) (r : Response), exec i { s with response := r } = exec i s

/-- Given `TV = 1`, the result of every operation but RAND is a function of its operands and the configuration alone
(R56(c), R242). -/
def Obligations.ResultsIgnoreHistory : Prop :=
  ∀ (i : Instr) (s s' : State), s.tv = true → s'.tv = true → s.TablesLoaded → s'.TablesLoaded → s.cfg = s'.cfg → i ≠ .rand →
    ∃ t t' : State, exec i s = .next t ∧ exec i s' = .next t' ∧ t.response = t'.response

/-- Given `TV = 1`, any two commands may be reordered, unless both touch the generator: each gets the
response it gets in the other order, and the state after both is the same but for the last response (R242). -/
def Obligations.CommandsCommute : Prop :=
  ∀ (i j : Instr) (s : State), s.tv = true → s.TablesLoaded →
    (i.touchesGenerator = false ∨ j.touchesGenerator = false) →
    ∃ si sij sj sji : State, exec i s = .next si ∧ exec j si = .next sij ∧ exec j s = .next sj ∧ exec i sj = .next sji ∧
      si.response = sji.response ∧ sij.response = sj.response ∧
      { sij with response := .none } = { sji with response := .none }

/-- A requester that keeps the duties of R240 is never stopped, and never gets an unspecified result. The duties are a condition on
the requests and `TV` alone. One step: a safe request is served, by a next state, with no free value drawn and FL2F's result
the one that R193 gives. Any run: requests that keep the duties are all served, in order, with no free value drawn. -/
def Obligations.SafeRunsAreSpecified : Prop :=
  (∀ (s : State) (r : Request) (rest : List Request), s.stream = r :: rest → r.isSafe s.tv = true →
    ∃ t : State, step s = .next t ∧ t.freeCount = s.freeCount ∧ t.stream = rest ∧ t.tv = r.tvAfter s.tv ∧
      ∀ p a, r = .command p → decode p = .ok (.fl2f a) → ∃ v, fl2f a = some v ∧ t.response = .result v) ∧
  (∀ (k : Nat) (s : State), dutiesKept s.tv (s.stream.take k) = true →
    ∃ t : State, Sys2Proof.core.run k s = .next t ∧ t.freeCount = s.freeCount ∧ t.stream = s.stream.drop k)
end

