-- ==== Sys2Proof/Laws/Arith.lean ====
section
/-! SUPPORT. One lemma for each arithmetic function of the model: its value over integers or naturals, so that no later proof
unfolds bit vectors. -/

namespace Sys2Proof.Machine

/-- `trunc32` keeps an integer that a word can hold. -/
theorem trunc32_toInt {x : Int} (h1 : -2147483648 ≤ x) (h2 : x ≤ 2147483647) : (trunc32 x).toInt = x := by
  rw [BitVec.toInt_ofInt]
  exact Int.bmod_eq_of_le (by norm_num; omega) (by norm_num; omega)

/-- Every word lies in the signed 32-bit range. -/
theorem word_toInt_bounds (v : Word) : -2147483648 ≤ v.toInt ∧ v.toInt ≤ 2147483647 := by
  have h1 := BitVec.le_toInt v
  have h2 := BitVec.toInt_lt (x := v)
  norm_num at h1 h2
  omega

/-- The clamp of R12 over integers. -/
theorem ssat_toInt {n : Nat} (h1 : 1 ≤ n) (h32 : n ≤ 32) (v : Word) :
    (ssat n v).toInt = min (max v.toInt (-2 ^ (n - 1))) (2 ^ (n - 1) - 1) := by
  have hp : (1 : Int) ≤ 2 ^ (n - 1) := one_le_pow₀ (by norm_num)
  have hq : (2 : Int) ^ (n - 1) ≤ 2 ^ 31 := pow_le_pow_right₀ (by norm_num) (by omega)
  norm_num at hq
  unfold ssat
  rw [trunc32_toInt] <;> omega

/-- The rounded high word of an intermediate whose high word fits (R13). -/
theorem hi32r_toInt {x : Int} (h1 : -9223372036854775808 ≤ x + 2147483648) (h2 : x + 2147483648 < 9223372036854775808) :
    (hi32r x).toInt = (x + 2147483648) / 4294967296 := by
  have h : hi32r x = trunc32 ((x + 2147483648) / 4294967296) := by norm_num [hi32r]
  rw [h, trunc32_toInt] <;> omega

/-- The product of two words fits 63 bits. -/
theorem word_mul_bounds (a b : Word) :
    -4611686018427387904 ≤ a.toInt * b.toInt ∧ a.toInt * b.toInt ≤ 4611686018427387904 := by
  obtain ⟨ha1, ha2⟩ := word_toInt_bounds a
  obtain ⟨hb1, hb2⟩ := word_toInt_bounds b
  constructor <;> nlinarith

/-- RMUL never wraps (R101). -/
theorem rmul_toInt (a b : Word) : (rmul a b).toInt = (a.toInt * b.toInt + 2147483648) / 4294967296 := by
  have h := word_mul_bounds a b
  exact hi32r_toInt (by omega) (by omega)

/-- RMLA is the accumulator plus RMUL, modulo 2^32 (R102). -/
theorem rmla_eq (a b c : Word) : rmla a b c = trunc32 (c.toInt + (rmul a b).toInt) := by
  rw [rmul_toInt]
  unfold rmla hi32r
  norm_num
  congr 1
  omega

/-- SINE's index is the top 12 bits of the phase (R141). -/
theorem sineIndex_eq (a : Word) : sineIndex a = ((a.toNat / 2 ^ 20 : Nat) : Int) := by
  have := a.isLt
  unfold sineIndex
  rw [BitVec.extractLsb_toNat, Nat.shiftRight_eq_div_pow, Nat.mod_eq_of_lt (by omega)]

/-- SINE's weight is the low 20 bits of the phase, times 2^11 (R141). -/
theorem sineWeight_toNat (a : Word) : (sineWeight a).toNat = a.toNat % 2 ^ 20 * 2 ^ 11 := by
  simp only [sineWeight, lsl32, BitVec.toNat_shiftLeft, BitVec.toNat_setWidth, BitVec.extractLsb_toNat,
    Nat.shiftRight_zero, Nat.shiftLeft_eq]
  omega

/-- WINDOW's index is the top 10 bits of the phase (R142). -/
theorem windowIndex_eq (a : Word) : windowIndex a = ((a.toNat / 2 ^ 22 : Nat) : Int) := by
  have := a.isLt
  unfold windowIndex
  rw [BitVec.extractLsb_toNat, Nat.shiftRight_eq_div_pow, Nat.mod_eq_of_lt (by omega)]

/-- WINDOW's weight is the low 22 bits of the phase, times 2^9 (R142). -/
theorem windowWeight_toNat (a : Word) : (windowWeight a).toNat = a.toNat % 2 ^ 22 * 2 ^ 9 := by
  simp only [windowWeight, lsl32, BitVec.toNat_shiftLeft, BitVec.toNat_setWidth, BitVec.extractLsb_toNat,
    Nat.shiftRight_zero, Nat.shiftLeft_eq]
  omega

/-- The arithmetic right shift is the floor of the quotient (R11). -/
theorem asr32_toInt (v : Word) (n : Nat) : (asr32 v n).toInt = v.toInt / 2 ^ n := by
  simp [asr32, BitVec.toInt_sshiftRight, Int.shiftRight_eq_div_pow]

/-- The pitch index is 128 plus the floor of the pitch (R163). -/
theorem pitchIndex_eq (p : Word) : pitchIndex p = 128 + p.toInt / 2 ^ 21 := by
  simp [pitchIndex, asr32_toInt, Config.fracBits]

/-- The pitch weight is the low 21 bits of the pitch, times 2^10 (R163). -/
theorem pitchWeight_toNat (p : Word) : (pitchWeight p).toNat = p.toNat % 2 ^ 21 * 2 ^ 10 := by
  simp only [pitchWeight, lsl32, BitVec.toNat_shiftLeft, BitVec.toNat_setWidth, BitVec.extractLsb_toNat,
    Nat.shiftRight_zero, Nat.shiftLeft_eq]
  omega

/-- The low bits of a word are the remainder of its signed value too. -/
theorem word_toNat_mod (p : Word) : ((p.toNat % 2 ^ 21 : Nat) : Int) = p.toInt % 2 ^ 21 := by
  rw [BitVec.toInt_eq_toNat_cond]
  split <;> omega

/-- F2I is the floor of the fixed-point value (R192). -/
theorem f2i_toInt (a : Word) : (f2i a).toInt = a.toInt / 2 ^ 21 := asr32_toInt a 21

/-- The highest set bit bounds the word (R14). -/
theorem msb_bounds {a : Word} (h : a ≠ 0) : 2 ^ msb a ≤ a.toNat ∧ a.toNat < 2 ^ (msb a + 1) := by
  have h0 : a.toNat ≠ 0 := fun hc => h (BitVec.eq_of_toNat_eq (by simpa using hc))
  exact ⟨Nat.log2_self_le h0, Nat.lt_log2_self⟩

/-- The highest set bit of a word is below 32 (R14). -/
theorem msb_lt (a : Word) : msb a < 32 := by
  by_cases h : a = 0
  · subst h; decide
  · by_contra hc
    have h1 := (msb_bounds h).1
    have h2 : 2 ^ 32 ≤ 2 ^ msb a := Nat.pow_le_pow_right (by norm_num) (by omega)
    have := a.isLt
    omega

/-- The mantissa interval has eight bits (R181). -/
theorem logMantissa_lt (a : Word) : logMantissa a < 256 := (BitVec.extractLsb 30 23 (lsl32 a (31 - msb a))).isLt

/-- A log value never wraps (R181). -/
theorem logValue_toNat {n : Nat} (h : n < 32) (e : Half) : (logValue n e).toNat = 2 ^ 21 * n + 2 ^ 5 * e.toNat := by
  have := e.isLt
  simp only [logValue, BitVec.toNat_ofNat, Config.fracBits, Config.logtShift]
  omega

end Sys2Proof.Machine
end

