-- ==== Sys2Proof/Laws/State.lean ====
section
/-! SUPPORT. One lemma per field per update of State, so that no proof unfolds a record update. -/

namespace Sys2Proof.Machine

/-! ## `State.respond` -/

@[simp] theorem State.respond_sinet (s : State) (r : Response) : (s.respond r).sinet = s.sinet := rfl
@[simp] theorem State.respond_sine2t (s : State) (r : Response) : (s.respond r).sine2t = s.sine2t := rfl
@[simp] theorem State.respond_windowt (s : State) (r : Response) : (s.respond r).windowt = s.windowt := rfl
@[simp] theorem State.respond_pitcht (s : State) (r : Response) : (s.respond r).pitcht = s.pitcht := rfl
@[simp] theorem State.respond_expt (s : State) (r : Response) : (s.respond r).expt = s.expt := rfl
@[simp] theorem State.respond_logt (s : State) (r : Response) : (s.respond r).logt = s.logt := rfl
@[simp] theorem State.respond_rng (s : State) (r : Response) : (s.respond r).rng = s.rng := rfl
@[simp] theorem State.respond_tv (s : State) (r : Response) : (s.respond r).tv = s.tv := rfl
@[simp] theorem State.respond_cfg (s : State) (r : Response) : (s.respond r).cfg = s.cfg := rfl
@[simp] theorem State.respond_stream (s : State) (r : Response) : (s.respond r).stream = s.stream := rfl
@[simp] theorem State.respond_response (s : State) (r : Response) : (s.respond r).response = r := rfl
@[simp] theorem State.respond_freeCount (s : State) (r : Response) : (s.respond r).freeCount = s.freeCount := rfl

/-! ## `State.respondFree` -/

@[simp] theorem State.respondFree_sinet (s : State) : (s.respondFree).sinet = s.sinet := rfl
@[simp] theorem State.respondFree_sine2t (s : State) : (s.respondFree).sine2t = s.sine2t := rfl
@[simp] theorem State.respondFree_windowt (s : State) : (s.respondFree).windowt = s.windowt := rfl
@[simp] theorem State.respondFree_pitcht (s : State) : (s.respondFree).pitcht = s.pitcht := rfl
@[simp] theorem State.respondFree_expt (s : State) : (s.respondFree).expt = s.expt := rfl
@[simp] theorem State.respondFree_logt (s : State) : (s.respondFree).logt = s.logt := rfl
@[simp] theorem State.respondFree_rng (s : State) : (s.respondFree).rng = s.rng := rfl
@[simp] theorem State.respondFree_tv (s : State) : (s.respondFree).tv = s.tv := rfl
@[simp] theorem State.respondFree_cfg (s : State) : (s.respondFree).cfg = s.cfg := rfl
@[simp] theorem State.respondFree_stream (s : State) : (s.respondFree).stream = s.stream := rfl
@[simp] theorem State.respondFree_response (s : State) : (s.respondFree).response = .result (Config.freeWord s.freeCount) := rfl
@[simp] theorem State.respondFree_freeCount (s : State) : (s.respondFree).freeCount = s.freeCount + 1 := rfl

/-! ## `State.setRng` -/

@[simp] theorem State.setRng_sinet (s : State) (v : Word) : (s.setRng v).sinet = s.sinet := rfl
@[simp] theorem State.setRng_sine2t (s : State) (v : Word) : (s.setRng v).sine2t = s.sine2t := rfl
@[simp] theorem State.setRng_windowt (s : State) (v : Word) : (s.setRng v).windowt = s.windowt := rfl
@[simp] theorem State.setRng_pitcht (s : State) (v : Word) : (s.setRng v).pitcht = s.pitcht := rfl
@[simp] theorem State.setRng_expt (s : State) (v : Word) : (s.setRng v).expt = s.expt := rfl
@[simp] theorem State.setRng_logt (s : State) (v : Word) : (s.setRng v).logt = s.logt := rfl
@[simp] theorem State.setRng_rng (s : State) (v : Word) : (s.setRng v).rng = v := rfl
@[simp] theorem State.setRng_tv (s : State) (v : Word) : (s.setRng v).tv = s.tv := rfl
@[simp] theorem State.setRng_cfg (s : State) (v : Word) : (s.setRng v).cfg = s.cfg := rfl
@[simp] theorem State.setRng_stream (s : State) (v : Word) : (s.setRng v).stream = s.stream := rfl
@[simp] theorem State.setRng_response (s : State) (v : Word) : (s.setRng v).response = s.response := rfl
@[simp] theorem State.setRng_freeCount (s : State) (v : Word) : (s.setRng v).freeCount = s.freeCount := rfl

/-! ## `State.withStream` -/

@[simp] theorem State.withStream_sinet (s : State) (q : List Request) : (s.withStream q).sinet = s.sinet := rfl
@[simp] theorem State.withStream_sine2t (s : State) (q : List Request) : (s.withStream q).sine2t = s.sine2t := rfl
@[simp] theorem State.withStream_windowt (s : State) (q : List Request) : (s.withStream q).windowt = s.windowt := rfl
@[simp] theorem State.withStream_pitcht (s : State) (q : List Request) : (s.withStream q).pitcht = s.pitcht := rfl
@[simp] theorem State.withStream_expt (s : State) (q : List Request) : (s.withStream q).expt = s.expt := rfl
@[simp] theorem State.withStream_logt (s : State) (q : List Request) : (s.withStream q).logt = s.logt := rfl
@[simp] theorem State.withStream_rng (s : State) (q : List Request) : (s.withStream q).rng = s.rng := rfl
@[simp] theorem State.withStream_tv (s : State) (q : List Request) : (s.withStream q).tv = s.tv := rfl
@[simp] theorem State.withStream_cfg (s : State) (q : List Request) : (s.withStream q).cfg = s.cfg := rfl
@[simp] theorem State.withStream_stream (s : State) (q : List Request) : (s.withStream q).stream = q := rfl
@[simp] theorem State.withStream_response (s : State) (q : List Request) : (s.withStream q).response = s.response := rfl
@[simp] theorem State.withStream_freeCount (s : State) (q : List Request) : (s.withStream q).freeCount = s.freeCount := rfl

/-! ## `State.withFetchWord` -/

@[simp] theorem State.withFetchWord_sinet (s : State) (nbits w : Nat) : (s.withFetchWord nbits w).sinet = s.sinet := rfl
@[simp] theorem State.withFetchWord_sine2t (s : State) (nbits w : Nat) : (s.withFetchWord nbits w).sine2t = s.sine2t := rfl
@[simp] theorem State.withFetchWord_windowt (s : State) (nbits w : Nat) : (s.withFetchWord nbits w).windowt = s.windowt := rfl
@[simp] theorem State.withFetchWord_pitcht (s : State) (nbits w : Nat) : (s.withFetchWord nbits w).pitcht = s.pitcht := rfl
@[simp] theorem State.withFetchWord_expt (s : State) (nbits w : Nat) : (s.withFetchWord nbits w).expt = s.expt := rfl
@[simp] theorem State.withFetchWord_logt (s : State) (nbits w : Nat) : (s.withFetchWord nbits w).logt = s.logt := rfl
@[simp] theorem State.withFetchWord_rng (s : State) (nbits w : Nat) : (s.withFetchWord nbits w).rng = s.rng := rfl
@[simp] theorem State.withFetchWord_tv (s : State) (nbits w : Nat) : (s.withFetchWord nbits w).tv = s.tv := rfl
@[simp] theorem State.withFetchWord_cfg (s : State) (nbits w : Nat) : (s.withFetchWord nbits w).cfg = s.cfg := rfl
@[simp] theorem State.withFetchWord_stream (s : State) (nbits w : Nat) : (s.withFetchWord nbits w).stream = .command (tableWordPacket nbits w) :: s.stream := rfl
@[simp] theorem State.withFetchWord_response (s : State) (nbits w : Nat) : (s.withFetchWord nbits w).response = s.response := rfl
@[simp] theorem State.withFetchWord_freeCount (s : State) (nbits w : Nat) : (s.withFetchWord nbits w).freeCount = s.freeCount := rfl

/-! ## `State.loadTables` -/

@[simp] theorem State.loadTables_sinet (s : State) : (s.loadTables).sinet = s.cfg.tabSinet := rfl
@[simp] theorem State.loadTables_sine2t (s : State) : (s.loadTables).sine2t = s.cfg.tabSine2t := rfl
@[simp] theorem State.loadTables_windowt (s : State) : (s.loadTables).windowt = s.cfg.tabWindowt := rfl
@[simp] theorem State.loadTables_pitcht (s : State) : (s.loadTables).pitcht = s.cfg.tabPitcht := rfl
@[simp] theorem State.loadTables_expt (s : State) : (s.loadTables).expt = s.cfg.tabExpt := rfl
@[simp] theorem State.loadTables_logt (s : State) : (s.loadTables).logt = s.cfg.tabLogt := rfl
@[simp] theorem State.loadTables_rng (s : State) : (s.loadTables).rng = s.rng := rfl
@[simp] theorem State.loadTables_tv (s : State) : (s.loadTables).tv = true := rfl
@[simp] theorem State.loadTables_cfg (s : State) : (s.loadTables).cfg = s.cfg := rfl
@[simp] theorem State.loadTables_stream (s : State) : (s.loadTables).stream = s.stream := rfl
@[simp] theorem State.loadTables_response (s : State) : (s.loadTables).response = s.response := rfl
@[simp] theorem State.loadTables_freeCount (s : State) : (s.loadTables).freeCount = s.freeCount := rfl

/-! ## `State.takeReset` -/

@[simp] theorem State.takeReset_sinet (s : State) : (s.takeReset).sinet = (State.reset.sinet) := rfl
@[simp] theorem State.takeReset_sine2t (s : State) : (s.takeReset).sine2t = (State.reset.sine2t) := rfl
@[simp] theorem State.takeReset_windowt (s : State) : (s.takeReset).windowt = (State.reset.windowt) := rfl
@[simp] theorem State.takeReset_pitcht (s : State) : (s.takeReset).pitcht = (State.reset.pitcht) := rfl
@[simp] theorem State.takeReset_expt (s : State) : (s.takeReset).expt = (State.reset.expt) := rfl
@[simp] theorem State.takeReset_logt (s : State) : (s.takeReset).logt = (State.reset.logt) := rfl
@[simp] theorem State.takeReset_rng (s : State) : (s.takeReset).rng = Config.seed0 := rfl
@[simp] theorem State.takeReset_tv (s : State) : (s.takeReset).tv = false := rfl
@[simp] theorem State.takeReset_cfg (s : State) : (s.takeReset).cfg = s.cfg := rfl
@[simp] theorem State.takeReset_stream (s : State) : (s.takeReset).stream = s.stream := rfl
@[simp] theorem State.takeReset_response (s : State) : (s.takeReset).response = .none := rfl
@[simp] theorem State.takeReset_freeCount (s : State) : (s.takeReset).freeCount = s.freeCount := rfl

/-! ## Absorption -/

@[simp] theorem State.respond_respond (s : State) (r r' : Response) : (s.respond r).respond r' = s.respond r' := rfl
@[simp] theorem State.setRng_setRng (s : State) (v v' : Word) : (s.setRng v).setRng v' = s.setRng v' := rfl
@[simp] theorem State.withStream_withStream (s : State) (q q' : List Request) :
    (s.withStream q).withStream q' = s.withStream q' := rfl
@[simp] theorem State.idle_eq (s : State) : s.idle = s := rfl

/-! ## The state after reset -/

@[simp] theorem State.reset_rng : State.reset.rng = 0x000056CE := rfl
@[simp] theorem State.reset_tv : State.reset.tv = false := rfl
@[simp] theorem State.reset_cfg : State.reset.cfg = Reference.config := rfl
@[simp] theorem State.reset_stream : State.reset.stream = [] := rfl
@[simp] theorem State.reset_response : State.reset.response = .none := rfl

end Sys2Proof.Machine
end

