-- ==== Sys2Proof/Laws/Ops.lean ====
section
/-! SUPPORT. What each shared operation can do, said once; the meanings' proofs cite these and do not unfold the operations. -/

namespace Sys2Proof.Machine

/-! ## Responses -/

@[simp] theorem State.answer_some (s : State) (v : Word) : s.answer (some v) = .next (s.respond (.result v)) := rfl

@[simp] theorem State.answer_none (s : State) : s.answer none = .next s.respondFree := rfl

/-- Everything `answer` can do: give the word, or a free word. -/
theorem State.answer_cases {s t : State} {r : Option Word} (h : s.answer r = .next t) :
    (∃ v, r = some v ∧ t = s.respond (.result v)) ∨ (r = none ∧ t = s.respondFree) := by
  cases r with
  | some v => exact .inl ⟨v, rfl, by simpa using h.symm⟩
  | none => exact .inr ⟨rfl, by simpa using h.symm⟩

/-- Everything `complete` can do. -/
theorem State.complete_cases {s t : State} (h : s.complete = .next t) : t = s.respond .completion := by
  simpa [State.complete] using h.symm

/-! ## Table elements -/

/-- While `TV = 0` no element is defined (R15). -/
theorem State.element_of_not_tv {α : Type} {n : Nat} {s : State} (h : s.tv = false) (t : Vector α n) (i : Int) :
    s.element t i = none := by
  simp [State.element, h]

/-- While `TV = 1` an element in range is what the table holds (R15). -/
theorem State.element_of_tv {α : Type} {n : Nat} {s : State} (h : s.tv = true) (t : Vector α n) {i : Int} (h0 : 0 ≤ i)
    (hn : i.toNat < n) : s.element t i = some t[i.toNat] := by
  simp [State.element, h, h0, hn]

/-- An element that is defined is in range and read while `TV = 1` (R15). -/
theorem State.element_some {α : Type} {n : Nat} {s : State} {t : Vector α n} {i : Int} {e : α}
    (h : s.element t i = some e) : s.tv = true ∧ 0 ≤ i ∧ ∃ hn : i.toNat < n, t[i.toNat] = e := by
  unfold State.element at h
  split at h
  · next hc =>
    obtain ⟨hn, he⟩ := Vector.getElem?_eq_some_iff.mp h
    exact ⟨hc.1, hc.2, hn, he⟩
  · cases h

/-- Reading does not depend on the response, the stream, the generator word or the supply of free values. -/
theorem State.element_congr {α : Type} {n : Nat} {s s' : State} (h : s.tv = s'.tv) (t : Vector α n) (i : Int) :
    s.element t i = s'.element t i := by
  simp [State.element, h]

@[simp] theorem blendRead_some (a b pf : Word) : blendRead (some a) (some b) pf = some (blend a b pf) := rfl
@[simp] theorem blendRead_none_left (y : Option Word) (pf : Word) : blendRead none y pf = none := rfl
@[simp] theorem blendRead_none_right (y : Option Word) (pf : Word) : blendRead y none pf = none := by cases y <;> rfl

/-- Where R193 gives FL2F a result, it is the result word. -/
theorem fl2fWord_of_some {a r : Word} (h : fl2f a = some r) : fl2fWord a = r := by simp [fl2fWord, h]
/-- Where R193 gives none, the result word is the operand's free word. -/
theorem fl2fWord_of_none {a : Word} (h : fl2f a = none) : fl2fWord a = Config.freeFloat a := by simp [fl2fWord, h]

/-! ## Each operation over the shared ones -/

theorem exec_rmul (a b : Word) (s : State) : exec (.rmul a b) s = s.answer (some (rmul a b)) := rfl
theorem exec_rmla (a b c : Word) (s : State) : exec (.rmla a b c) s = s.answer (some (rmla a b c)) := rfl
theorem exec_rmls (a b c : Word) (s : State) : exec (.rmls a b c) s = s.answer (some (rmls a b c)) := rfl
theorem exec_init (s : State) : exec .init s = s.loadTables.complete := rfl
theorem exec_sine (a : Word) (s : State) : exec (.sine a) s = s.answer (sineResult s a) := rfl
theorem exec_window (a : Word) (s : State) : exec (.window a) s = s.answer (windowResult s a) := rfl
theorem exec_mtof (a : Word) (s : State) : exec (.mtof a) s = s.answer (mtofResult Config.satStd s a) := rfl
theorem exec_mtofx (a : Word) (s : State) : exec (.mtofx a) s = s.answer (mtofResult Config.satExt s a) := rfl
theorem exec_log2 (a : Word) (s : State) : exec (.log2 a) s = s.answer (log2Result s a) := rfl
theorem exec_i2f (a : Word) (s : State) : exec (.i2f a) s = s.answer (some (i2f a)) := rfl
theorem exec_f2i (a : Word) (s : State) : exec (.f2i a) s = s.answer (some (f2i a)) := rfl
theorem exec_fl2f (a : Word) (s : State) : exec (.fl2f a) s = s.answer (some (fl2fWord a)) := rfl
theorem exec_rand (s : State) : exec .rand s = (s.setRng (lcgNext s.rng)).answer (some (lcgNext s.rng)) := rfl
theorem exec_seed (a : Word) (s : State) : exec (.seed a) s = (s.setRng a).complete := rfl

/-! ## Everything `exec` and `step` can do -/

/-- Everything an operation can do: INIT loads the tables, RAND and SEED write the generator word, and every other operation
only answers (R23, R205). -/
theorem exec_cases {i : Instr} {s t : State} (h : exec i s = .next t) :
    (i = .init ∧ t = s.loadTables.respond .completion) ∨
    (i = .rand ∧ t = (s.setRng (lcgNext s.rng)).respond (.result (lcgNext s.rng))) ∨
    (∃ a, i = .seed a ∧ t = (s.setRng a).respond .completion) ∨
    (i ≠ .init ∧ i.touchesGenerator = false ∧
      ((∃ v, t = s.respond (.result v)) ∨ t = s.respondFree)) := by
  have ans (r : Option Word) (h : s.answer r = .next t) : (∃ v, t = s.respond (.result v)) ∨ t = s.respondFree := by
    rcases State.answer_cases h with ⟨v, -, ht⟩ | ⟨-, ht⟩
    · exact .inl ⟨v, ht⟩
    · exact .inr ht
  cases i with
  | init => exact .inl ⟨rfl, State.complete_cases h⟩
  | rand => exact .inr (.inl ⟨rfl, by simpa [exec, execRand] using h.symm⟩)
  | seed a => exact .inr (.inr (.inl ⟨a, rfl, State.complete_cases h⟩))
  | rmul a b => exact .inr (.inr (.inr ⟨nofun, rfl, ans (some (rmul a b)) h⟩))
  | rmla a b c => exact .inr (.inr (.inr ⟨nofun, rfl, ans (some (rmla a b c)) h⟩))
  | rmls a b c => exact .inr (.inr (.inr ⟨nofun, rfl, ans (some (rmls a b c)) h⟩))
  | i2f a => exact .inr (.inr (.inr ⟨nofun, rfl, ans (some (i2f a)) h⟩))
  | f2i a => exact .inr (.inr (.inr ⟨nofun, rfl, ans (some (f2i a)) h⟩))
  | fl2f a => exact .inr (.inr (.inr ⟨nofun, rfl, ans (some (fl2fWord a)) h⟩))
  | sine | window | mtof | mtofx | log2 => exact .inr (.inr (.inr ⟨nofun, rfl, ans _ h⟩))

/-- Everything a step can do when it answers a next state. -/
theorem step_cases {s t : State} (h : step s = .next t) :
    (s.stream = [] ∧ t = s) ∨
    (∃ rest, s.stream = .reset :: rest ∧ t = (s.withStream rest).takeReset) ∨
    (∃ p rest i, s.stream = .command p :: rest ∧ decode p = .ok i ∧ exec i (s.withStream rest) = .next t) := by
  unfold step at h
  split at h
  · next hs => exact .inl ⟨hs, by simpa using h.symm⟩
  · next rest hs => exact .inr (.inl ⟨rest, hs, by simpa using h.symm⟩)
  · next p rest hs =>
    split at h
    · next i hi => exact .inr (.inr ⟨p, rest, i, hs, hi, h⟩)
    · cases h

/-- A step stops only at a reserved packet. -/
theorem step_refused_cases {s : State} {r : Refusal} (h : step s = .refused r) :
    (∃ p rest why, s.stream = .command p :: rest ∧ decode p = .error why ∧ r = .reservedCommand why) ∨
    (∃ p rest i, s.stream = .command p :: rest ∧ decode p = .ok i ∧ exec i (s.withStream rest) = .refused r) := by
  unfold step at h
  split at h
  · cases h
  · cases h
  · next p rest hs =>
    split at h
    · next i hi => exact .inr ⟨p, rest, i, hs, hi, h⟩
    · next why hw => exact .inl ⟨p, rest, why, hs, hw, by simpa using h.symm⟩

end Sys2Proof.Machine
end

