-- ==== Sys2Proof/Laws/PerInstr.lean ====
section
/-! SUPPORT. Statements made once per instruction: the form of an instruction's packet. -/

namespace Sys2Proof.Laws.PacketForm

/-- The packet of `i` is well-formed, its `W0` is the opcode of R72, and the operand words `i` does not use are 0 (R71). -/
def Statement (i : Instr) : Prop :=
  (encode i).wellFormed = true ∧ (encode i).w0 = i.opcode ∧ (encode i).keep i.operandsUsed = encode i

/-- Whether a packet is well-formed depends on `W0` alone (R73). -/
theorem wellFormed_of_w0 {w : Word} (h : Packet.wellFormed ⟨w, 0, 0, 0⟩ = true) (a b c : Word) :
    Packet.wellFormed ⟨w, a, b, c⟩ = true := h

theorem rmul (a b : Word) : Statement (.rmul a b) := ⟨wellFormed_of_w0 (w := 0x10) (by decide) _ _ _, rfl, rfl⟩
theorem rmla (a b c : Word) : Statement (.rmla a b c) := ⟨wellFormed_of_w0 (w := 0x11) (by decide) _ _ _, rfl, rfl⟩
theorem rmls (a b c : Word) : Statement (.rmls a b c) := ⟨wellFormed_of_w0 (w := 0x12) (by decide) _ _ _, rfl, rfl⟩
theorem init : Statement .init := ⟨wellFormed_of_w0 (w := 0x20) (by decide) _ _ _, rfl, rfl⟩
theorem sine (a : Word) : Statement (.sine a) := ⟨wellFormed_of_w0 (w := 0x30) (by decide) _ _ _, rfl, rfl⟩
theorem window (a : Word) : Statement (.window a) := ⟨wellFormed_of_w0 (w := 0x31) (by decide) _ _ _, rfl, rfl⟩
theorem mtof (a : Word) : Statement (.mtof a) := ⟨wellFormed_of_w0 (w := 0x40) (by decide) _ _ _, rfl, rfl⟩
theorem mtofx (a : Word) : Statement (.mtofx a) := ⟨wellFormed_of_w0 (w := 0x41) (by decide) _ _ _, rfl, rfl⟩
theorem log2 (a : Word) : Statement (.log2 a) := ⟨wellFormed_of_w0 (w := 0x50) (by decide) _ _ _, rfl, rfl⟩
theorem i2f (a : Word) : Statement (.i2f a) := ⟨wellFormed_of_w0 (w := 0x60) (by decide) _ _ _, rfl, rfl⟩
theorem f2i (a : Word) : Statement (.f2i a) := ⟨wellFormed_of_w0 (w := 0x61) (by decide) _ _ _, rfl, rfl⟩
theorem fl2f (a : Word) : Statement (.fl2f a) := ⟨wellFormed_of_w0 (w := 0x62) (by decide) _ _ _, rfl, rfl⟩
theorem rand : Statement .rand := ⟨wellFormed_of_w0 (w := 0x70) (by decide) _ _ _, rfl, rfl⟩
theorem seed (a : Word) : Statement (.seed a) := ⟨wellFormed_of_w0 (w := 0x71) (by decide) _ _ _, rfl, rfl⟩

end Sys2Proof.Laws.PacketForm
end

