-- ==== Sys2Proof/Laws/Reference.lean ====
section
/-! SUPPORT. The reference configuration makes an instance of CORE (spec/42_table_init.md R123 to R128). -/

namespace Sys2Proof.Machine.Reference

/-- Neighbouring elements of a list do not decrease, as a test that walks the list once. -/
def ascending {w : Nat} : List (BitVec w) → Bool
  | a :: b :: rest => decide (a ≤ b) && ascending (b :: rest)
  | _ => true

theorem ascending_getElem {w : Nat} {l : List (BitVec w)} (h : ascending l = true) (i : Nat) (hi : i + 1 < l.length) :
    l[i] ≤ l[i + 1] := by
  induction l generalizing i with
  | nil => simp at hi
  | cons a rest ih =>
    cases rest with
    | nil => simp at hi
    | cons b rest =>
      simp only [ascending, Bool.and_eq_true, decide_eq_true_eq] at h
      cases i with
      | zero => exact h.1
      | succ i => exact ih h.2 i (by simpa using hi)

/-- What the walk says of a vector. -/
theorem ascending_vector {w n : Nat} (v : Vector (BitVec w) n) (h : ascending v.toList = true) (i : Nat) (hi : i + 1 < n) :
    v[i] ≤ v[i + 1] := by
  have := ascending_getElem h i (by simpa using hi)
  simpa using this

/-- A bound that a walk has tested holds of every element of a vector. -/
theorem bounded_vector {w n : Nat} (v : Vector (BitVec w) n) (b : BitVec w)
    (h : v.toList.all (fun x => decide (x ≤ b)) = true) (i : Nat) (hi : i < n) : v[i] ≤ b :=
  of_decide_eq_true (List.all_eq_true.mp h v[i] (by simp))

theorem config_pitcht_ascending : ascending config.tabPitcht.toList = true := by decide +kernel
theorem config_logt_ascending : ascending config.tabLogt.toList = true := by decide +kernel
theorem config_pitcht_bounded : config.tabPitcht.toList.all (fun v => decide (v ≤ Config.maxw)) = true := by
  decide +kernel

theorem config_guardSinet : config.GuardSinet := by decide +kernel
theorem config_guardSine2t : config.GuardSine2t := by decide +kernel
theorem config_guardWindowt : config.GuardWindowt := by decide +kernel
theorem config_logZero : config.LogZero := by decide +kernel

/-- The reference arrays meet every invariant of R123 to R128. -/
theorem config_valid : config.Valid := by
  exact ⟨config_guardSinet, config_guardSine2t, config_guardWindowt,
    fun i => bounded_vector _ _ config_pitcht_bounded i.val i.isLt,
    fun i => ascending_vector _ config_pitcht_ascending i.val (Nat.succ_lt_succ i.isLt), config_logZero,
    fun i => ascending_vector _ config_logt_ascending i.val (Nat.succ_lt_succ i.isLt)⟩

end Sys2Proof.Machine.Reference
end

