-- ==== Sys2Proof/Machine/Assembler.lean ====
section
/-! DEFINITION. The assembler syntax (spec/30_encoding.md R78) and the aliases (R79). A line is a list of characters. The text of
a line that R78 does not describe is refused, not guessed at (log 21). -/

namespace Sys2Proof.Machine.Assembler

/-- What one line spells. -/
inductive Line where
  /-- Nothing but spaces and a comment. -/
  | blank
  /-- One command. -/
  | command (i : Instr)
  /-- Not of the form of R78. -/
  | malformed
deriving DecidableEq, Repr

/-- The value of a decimal digit. -/
def decimalDigit (c : Char) : Option Nat :=
  if '0' ≤ c ∧ c ≤ '9' then some (c.toNat - '0'.toNat) else none

/-- The value of a hexadecimal digit, in either case. -/
def hexDigit (c : Char) : Option Nat :=
  if '0' ≤ c ∧ c ≤ '9' then some (c.toNat - '0'.toNat)
  else if 'a' ≤ c ∧ c ≤ 'f' then some (c.toNat - 'a'.toNat + 10)
  else if 'A' ≤ c ∧ c ≤ 'F' then some (c.toNat - 'A'.toNat + 10)
  else none

/-- The number that a list of digits spells in a base, continuing from `acc`. -/
def digitsValue (digit : Char → Option Nat) (base acc : Nat) : List Char → Option Nat
  | [] => some acc
  | c :: rest =>
    match digit c with
    | some d => digitsValue digit base (acc * base + d) rest
    | none => none

/-- A decimal integer stands for its low 32 bits, from -2147483648 to 4294967295 (R78). -/
def decimalWord (v : Int) : Option Word :=
  if -2147483648 ≤ v ∧ v ≤ 4294967295 then some (trunc32 v) else none

/-- An operand: `0x` and one to eight hexadecimal digits, or a decimal integer in its range (R78). -/
def operand (cs : List Char) : Option Word :=
  match cs with
  | [] | ['-'] | ['0', 'x'] => none
  | '0' :: 'x' :: ds => if ds.length ≤ 8 then (digitsValue hexDigit 16 0 ds).map (BitVec.ofNat 32) else none
  | '-' :: ds => (digitsValue decimalDigit 10 0 ds).bind fun v => decimalWord (-(v : Int))
  | ds => (digitsValue decimalDigit 10 0 ds).bind fun v => decimalWord v

/-- The line up to its comment, which a `;` starts (R78). -/
def dropComment : List Char → List Char
  | [] => []
  | c :: rest => if c = ';' then [] else c :: dropComment rest

/-- A space or a tab. -/
def isSpace (c : Char) : Bool := c == ' ' || c == '\t'

/-- Without the spaces at either end. -/
def trim (cs : List Char) : List Char := ((cs.dropWhile isSpace).reverse.dropWhile isSpace).reverse

/-- The parts of a list between commas. -/
def splitCommas : List Char → List (List Char)
  | [] => [[]]
  | c :: rest =>
    match splitCommas rest with
    | [] => [[c]]
    | part :: parts => if c = ',' then [] :: part :: parts else (c :: part) :: parts

/-- The operand words of a list of parts, if every part is an operand. -/
def operands : List (List Char) → Option (List Word)
  | [] => some []
  | part :: parts =>
    match operand (trim part), operands parts with
    | some w, some ws => some (w :: ws)
    | _, _ => none

/-- The mnemonic that a document's function name is an alias of, "each for exactly one command" (R79); any other name stands for
itself. -/
def resolveAlias (name : List Char) : List Char :=
  if name = "initialize_tables".toList then "INIT".toList
  else if name = "pitch_to_frequency".toList then "MTOF".toList
  else if name = "pitch_to_frequency_extended".toList then "MTOFX".toList
  else if name = "evaluate_sine".toList then "SINE".toList
  else if name = "evaluate_window".toList then "WINDOW".toList
  else if name = "fast_log2".toList then "LOG2".toList
  else if name = "int_to_frac".toList then "I2F".toList
  else if name = "frac_to_int".toList then "F2I".toList
  else if name = "float_to_frac".toList then "FL2F".toList
  else if name = "next_random".toList then "RAND".toList
  else name

/-- The command of a mnemonic and the operand words it uses, in the order `A`, `B`, `C` (R72, R78). -/
def build (mnemonic : List Char) (ops : List Word) : Option Instr :=
  match ops with
  | [] =>
    if mnemonic = "INIT".toList then some .init
    else if mnemonic = "RAND".toList then some .rand
    else none
  | [a] =>
    if mnemonic = "SINE".toList then some (.sine a)
    else if mnemonic = "WINDOW".toList then some (.window a)
    else if mnemonic = "MTOF".toList then some (.mtof a)
    else if mnemonic = "MTOFX".toList then some (.mtofx a)
    else if mnemonic = "LOG2".toList then some (.log2 a)
    else if mnemonic = "I2F".toList then some (.i2f a)
    else if mnemonic = "F2I".toList then some (.f2i a)
    else if mnemonic = "FL2F".toList then some (.fl2f a)
    else if mnemonic = "SEED".toList then some (.seed a)
    else none
  | [a, b] => if mnemonic = "RMUL".toList then some (.rmul a b) else none
  | [a, b, c] =>
    if mnemonic = "RMLA".toList then some (.rmla a b c)
    else if mnemonic = "RMLS".toList then some (.rmls a b c)
    else none
  | _ => none

/-- The command that one line spells (R78, R79). -/
def assembleLine (text : List Char) : Line :=
  match trim (dropComment text) with
  | [] => .blank
  | body =>
    let rest := trim (body.dropWhile fun c => !isSpace c)
    let parts := match rest with
      | [] => some []
      | _ => operands (splitCommas rest)
    match parts.bind (build (resolveAlias (body.takeWhile fun c => !isSpace c))) with
    | some i => .command i
    | none => .malformed

end Sys2Proof.Machine.Assembler
end

