-- ==== Sys2Proof/Tests/Slice0.lean ====
section
/-! SUPPORT. Tests: the checks refuse ill-formed terms; words written out from spec/30_encoding.md decode; vectors of
spec/95_test_vectors.md; and, for every obligation with hypotheses, a concrete state and operands that meet them. -/

namespace Sys2Proof.Tests

open Sys2Proof Machine Certificates

/-! ## Helpers -/

/-- The reset machine with its tables loaded: the state after `INIT` but for the response. -/
def loaded : State := State.reset.loadTables

/-- The reset machine with requests presented. -/
def presented (rs : List Request) : State := State.reset.withStream rs

/-- The result word of the response, if the machine went on and answered one. -/
def resultOf : Result → Option Word
  | .next t => match t.response with
    | .result r => some r
    | _ => none
  | _ => none

/-- The generator word, if the machine went on. -/
def rngOf : Result → Option Word
  | .next t => some t.rng
  | _ => none

/-- Whether the machine went on with a completion that carries no data. -/
def completes : Result → Bool
  | .next t => t.response == .completion
  | _ => false

/-- A configuration whose arrays are all zero; every invariant holds of it. -/
def flat : TableConfig where
  tabSinet := Vector.replicate 1025 0
  tabSine2t := Vector.replicate 4097 0
  tabWindowt := Vector.replicate 1025 0
  tabPitcht := Vector.replicate 257 0
  tabExpt := Vector.replicate 256 0
  tabLogt := Vector.replicate 256 0

/-! ## The checks refuse ill-formed terms (95_test_vectors.md 2.0; R123 to R128) -/

theorem smoke_packet_accepted : (Packet.mk 0x10 1 2 3).wellFormed = true := by decide
theorem smoke_zeroField_refused : (Packet.mk 0x110 1 2 3).zeroFieldOk = false ∧ (Packet.mk 0x110 1 2 3).wellFormed = false := by
  decide
theorem smoke_opcode_refused : (Packet.mk 0x13 1 2 3).opcodeOk = false ∧ (Packet.mk 0x13 1 2 3).wellFormed = false := by
  decide
theorem smoke_config_accepted : flat.Valid := by
  simp [TableConfig.Valid, TableConfig.GuardSinet, TableConfig.GuardSine2t, TableConfig.GuardWindowt, TableConfig.PitchBounded,
    TableConfig.PitchNondecreasing, TableConfig.LogZero, TableConfig.LogNondecreasing, flat]
theorem smoke_guardSinet_refused :
    ¬ TableConfig.GuardSinet { flat with tabSinet := flat.tabSinet.set 1024 1 } := by decide +kernel
theorem smoke_guardSine2t_refused :
    ¬ TableConfig.GuardSine2t { flat with tabSine2t := flat.tabSine2t.set 0 1 } := by decide +kernel
theorem smoke_guardWindowt_refused :
    ¬ TableConfig.GuardWindowt { flat with tabWindowt := flat.tabWindowt.set 1024 1 } := by decide +kernel
theorem smoke_pitchBounded_refused :
    ¬ TableConfig.PitchBounded { flat with tabPitcht := flat.tabPitcht.set 256 0x80000000 } := fun h =>
  absurd (h 256) (by decide +kernel)
theorem smoke_pitchNondecreasing_refused :
    ¬ TableConfig.PitchNondecreasing { flat with tabPitcht := flat.tabPitcht.set 255 1 } := fun h =>
  absurd (h 255) (by decide +kernel)
theorem smoke_logZero_refused :
    ¬ TableConfig.LogZero { flat with tabLogt := flat.tabLogt.set 0 1 } := by decide +kernel
theorem smoke_logNondecreasing_refused :
    ¬ TableConfig.LogNondecreasing { flat with tabLogt := flat.tabLogt.set 254 1 } := fun h =>
  absurd (h 254) (by decide +kernel)

/-! ## Every row's word, written out as `W3 W2 W1 W0` (R70, R72) -/

theorem decode_rmul : decodeTableWord 128 0xFFFFFFFF_9ABCDEF0_12345678_00000010 = some (.rmul 0x12345678 0x9ABCDEF0) := by decide
theorem decode_rmla : decodeTableWord 128 0x0BADF00D_9ABCDEF0_12345678_00000011 = some (.rmla 0x12345678 0x9ABCDEF0 0x0BADF00D) := by
  decide
theorem decode_rmls : decodeTableWord 128 0x0BADF00D_9ABCDEF0_12345678_00000012 = some (.rmls 0x12345678 0x9ABCDEF0 0x0BADF00D) := by
  decide
theorem decode_init : decodeTableWord 128 0x00000003_00000002_00000001_00000020 = some .init := by decide
theorem decode_sine : decodeTableWord 128 0x00000000_00000000_80000001_00000030 = some (.sine 0x80000001) := by decide
theorem decode_window : decodeTableWord 128 0x00000000_00000000_80000001_00000031 = some (.window 0x80000001) := by decide
theorem decode_mtof : decodeTableWord 128 0x00000000_00000000_F8000000_00000040 = some (.mtof 0xF8000000) := by decide
theorem decode_mtofx : decodeTableWord 128 0x00000000_00000000_F0000000_00000041 = some (.mtofx 0xF0000000) := by decide
theorem decode_log2 : decodeTableWord 128 0x00000000_00000000_0000BB80_00000050 = some (.log2 0xBB80) := by decide
theorem decode_i2f : decodeTableWord 128 0x12345678_DEADBEEF_00000003_00000060 = some (.i2f 3) := by decide
theorem decode_f2i : decodeTableWord 128 0x00000000_00000000_00500000_00000061 = some (.f2i 0x00500000) := by decide
theorem decode_fl2f : decodeTableWord 128 0x00000000_00000000_3FC00000_00000062 = some (.fl2f 0x3FC00000) := by decide
theorem decode_rand : decodeTableWord 128 0x00000003_00000002_00000001_00000070 = some .rand := by decide
theorem decode_seed : decodeTableWord 128 0x00000000_00000000_000056CE_00000071 = some (.seed 0x56CE) := by decide
/-- A row's bits alone, with every other bit 0. -/
theorem decode_short : decodeTableWord 8 0x60 = some (.i2f 0) := by decide
/-- The reserved words of 95_test_vectors.md 2.0. -/
theorem decode_reserved :
    ([0x13, 0x21, 0x32, 0x63, 0x72, 0x00, 0x80, 0xFF].map fun w => decode ⟨w, 0, 0, 0⟩) = List.replicate 8 (.error .opcode) ∧
    ([0x110, 0x80000070].map fun w => decode ⟨w, 0, 0, 0⟩) = List.replicate 2 (.error .zeroField) := by decide

/-! ## Vectors (95_test_vectors.md parts 2 and 3) -/

theorem test_rmul : resultOf (exec (.rmul 0x12345678 0x9ABCDEF0) State.reset) = some 0xF8CC93D6 := by decide +kernel
theorem test_rmul_tie : rmul 0x80000000 0xFFFFFFFF = 1 ∧ rmul 0xC0000000 2 = 0 := by decide
theorem test_rmla : resultOf (exec (.rmla 0x12345678 0x9ABCDEF0 0x0BADF00D) State.reset) = some 0x047A83E3 := by decide +kernel
theorem test_rmla_wraps : rmla 0x80000000 0x7FFFFFFF 0x80000000 = 0x40000001 ∧ rmla 0x10000 0x8000 5 = 6 := by decide
theorem test_rmls : resultOf (exec (.rmls 0x12345678 0x9ABCDEF0 0x0BADF00D) State.reset) = some 0x12E15C37 := by decide +kernel
theorem test_rmls_tie : rmls 0x10000 0x8000 0xFFFFFFFB = 0xFFFFFFFB ∧ rmls 0xC0000000 2 0 = 1 := by decide
theorem test_blend : blend 0x80000000 0x80000000 0x40000000 = 0x80000002 ∧ blend 0xFFFFFFFB 0xFFFFFFFB 0 = 0xFFFFFFFC ∧
    blend 0x7FFFFFFF 0x7FFFFFFF 0x7FFFF800 = 0x7FFFFFFE ∧ blend 0 0x003243F5 0x40000000 = 0x001921FA := by decide
theorem test_init : completes (exec .init State.reset) = true ∧ rngOf (exec .init State.reset) = some 0x56CE := by
  decide +kernel
theorem test_init_tables : loaded.sinet[256] = 32767 ∧ loaded.sine2t[1024] = 2147483647 ∧ loaded.windowt[512] = 32767 ∧
    loaded.pitcht[128] = 29494574 ∧ loaded.pitcht[256] = 2147483647 ∧ loaded.logt[255] = 65351 := by decide +kernel
theorem test_sine : resultOf (exec (.sine 0x12345678) loaded) = some 0x374E951E := by decide +kernel
theorem test_sine_guard : resultOf (exec (.sine 0xFFFFFFFF) loaded) = some 0xFFFFFFFC := by decide +kernel
theorem test_window : resultOf (exec (.window 0x12345678) loaded) = some 0x0647FB72 := by decide +kernel
theorem test_window_top : resultOf (exec (.window 0x7FFFFFFF) loaded) = some 0x7FFEFFFE := by decide +kernel
theorem test_mtof_saturates : resultOf (exec (.mtof 0x08000000) loaded) = some 0x46E0F048 := by decide +kernel
theorem test_mtof_negative : resultOf (exec (.mtof 0xFFF00000) loaded) = some 0x01B56BFA := by decide +kernel
theorem test_mtofx : resultOf (exec (.mtofx 0x08000000) loaded) = some 0x46E0F068 := by decide +kernel
theorem test_mtofx_lowest : resultOf (exec (.mtofx 0x80000000) loaded) = some 0x000046E0 := by decide +kernel
theorem test_log2 : resultOf (exec (.log2 0xBB80) loaded) = some 0x01F19FA0 := by decide +kernel
theorem test_log2_zero : resultOf (exec (.log2 0) State.reset) = some 0x80000000 := by decide +kernel
theorem test_i2f : resultOf (exec (.i2f 0xFFFFFBFF) State.reset) = some 0x7FE00000 := by decide +kernel
theorem test_i2f_wraps : i2f 0x403 = 0x80600000 := by decide
theorem test_f2i : resultOf (exec (.f2i 0xFFB00000) State.reset) = some 0xFFFFFFFD := by decide +kernel
theorem test_f2i_below_one : f2i 0xFFDFFFFF = 0xFFFFFFFE := by decide
theorem test_fl2f : resultOf (exec (.fl2f 0xBDCCCCCD) State.reset) = some 0xFFFCCCCD ∧ [0xC4800000, 0x447FFFFF, 0xB5400000, 0x007FFFFF, 0x40490FDB].map fl2f =
    [some 0x80000000, some 0x7FFFFF80, some 0xFFFFFFFF, some 0, some 0x006487ED] ∧
    [0x44800000, 0xC4800001, 0x7F7FFFFF, 0x7F800000, 0x7FC00000].map fl2f = [none, none, none, none, none] := by decide +kernel
theorem test_rand : resultOf (exec .rand State.reset) = some 0xEEF79411 ∧ rngOf (exec .rand State.reset) = some 0xEEF79411 := by
  decide +kernel
theorem test_rand_zero : lcgNext 0 = 0x3619636B ∧ lcgNext 0xFFFFFFFF = 0x2A65DF36 := by decide
theorem test_seed : rngOf (exec (.seed 0xFFFFFFFF) State.reset) = some 0xFFFFFFFF ∧
    completes (exec (.seed 0xFFFFFFFF) State.reset) = true := by decide +kernel

/-- Out of range FL2F answers the operand's own free word and draws nothing from the counter (R242; log 5). -/
theorem test_fl2f_open (s : State) : exec (.fl2f 0x7F800000) s = .next (s.respond (.result (Config.freeFloat 0x7F800000))) := by
  rw [exec_fl2f, fl2fWord_of_none (by decide +kernel), State.answer_some]

/-! ## The step -/

/-- A command placed by `withFetchWord` is the next one run. -/
theorem test_step_runs : resultOf (step (State.reset.withFetchWord 128 0x9ABCDEF0_12345678_00000010)) = some 0xF8CC93D6 := by
  decide +kernel
/-- A reserved word is refused by name (program 7 of part 3). -/
theorem test_step_refuses (rest : List Request) :
    step (presented (.command ⟨0x13, 1, 2, 3⟩ :: rest)) = .refused (.reservedCommand .opcode) := rfl
/-- A reset brings the generator back and leaves the rest of the stream. -/
theorem test_step_resets : rngOf (step { presented [.reset] with rng := 7 }) = some 22222 := by decide +kernel

/-! ## The assembler (R78, R79) -/

open Assembler in
theorem test_assemble :
    assembleLine "RMLA 0x12345678, -1,4294967295 ; c".toList = .command (.rmla 0x12345678 0xFFFFFFFF 0xFFFFFFFF) ∧
    assembleLine "pitch_to_frequency_extended 0x08000000".toList = .command (.mtofx 0x08000000) ∧
    assembleLine "  RAND".toList = .command .rand ∧ assembleLine "; only a comment".toList = .blank := by decide +kernel

open Assembler in
theorem test_assemble_refuses :
    assembleLine "RMUL 1".toList = .malformed ∧ assembleLine "SEED 0x123456789".toList = .malformed ∧
    assembleLine "SEED 4294967296".toList = .malformed ∧ assembleLine "SEED -2147483649".toList = .malformed ∧
    assembleLine "sine 1".toList = .malformed := by decide +kernel

/-! ## Witnesses: the hypotheses of each obligation can be met together -/

theorem loaded_consistent : loaded.Consistent := ⟨Reference.config_valid, fun _ => ⟨rfl, rfl, rfl, rfl, rfl, rfl⟩⟩
theorem loaded_tables : loaded.TablesLoaded := loaded_consistent.2

/-- The loaded machine with requests presented. -/
def busy (rs : List Request) : State := loaded.withStream rs

theorem busy_consistent (rs : List Request) : (busy rs).Consistent :=
  ⟨Reference.config_valid, fun _ => ⟨rfl, rfl, rfl, rfl, rfl, rfl⟩⟩

theorem witness_StepRunsDecodedCommand :
    (presented [.command ⟨0x10, 1, 2, 3⟩, .reset]).stream = [.command ⟨0x10, 1, 2, 3⟩, .reset] ∧
    decode ⟨0x10, 1, 2, 3⟩ = .ok (.rmul 1 2) := ⟨rfl, rfl⟩
theorem witness_OnlyReservedCommandsStop :
    (presented [.command ⟨0x13, 1, 2, 3⟩]).stream = [.command ⟨0x13, 1, 2, 3⟩] ∧
    (Packet.mk 0x13 1 2 3).wellFormed = false ∧ (Packet.mk 0x110 1 2 3).wellFormed = false ∧
    (Packet.mk 0x71 1 2 3).wellFormed = true := ⟨rfl, by decide, by decide, by decide⟩
theorem witness_OpcodeMapDecodes :
    (Packet.mk 0x13 1 2 3).w0 ∉
      ([0x10, 0x11, 0x12, 0x20, 0x30, 0x31, 0x40, 0x41, 0x50, 0x60, 0x61, 0x62, 0x70, 0x71] : List Word) ∧
    (Packet.mk 0x13 1 2 3).w0.toNat / 256 = 0 ∧ (Packet.mk 0x110 1 2 3).w0.toNat / 256 ≠ 0 := by decide
theorem witness_UnusedOperandsHaveNoEffect :
    decode ⟨0x60, 3, 0xDEADBEEF, 0x12345678⟩ = .ok (.i2f 3) ∧
    (Packet.mk 0x60 3 0xDEADBEEF 0x12345678).keep (Instr.i2f 3).operandsUsed =
      (Packet.mk 0x60 3 0 0).keep (Instr.i2f 3).operandsUsed := ⟨rfl, by decide⟩
theorem witness_OneRequestPerStep :
    (∃ t, step State.reset = .next t) ∧ (∃ t, step (presented [.reset]) = .next t) ∧
    (∃ t, step (presented [.command (encode .rand)]) = .next t) := ⟨⟨_, rfl⟩, ⟨_, rfl⟩, ⟨_, rfl⟩⟩
theorem witness_IdleKeepsAllState : State.reset.stream = [] := rfl
theorem witness_RmulRoundsProduct : ((0x10000 : Word).toInt * (0x8000 : Word).toInt) % 2 ^ 32 = 2 ^ 31 := by decide
/-- Both signs, a mixed pair off a tie and at one, a zero, and a pair for the symmetry. -/
theorem witness_MultiplySignTable :
    0 < (1 : Word).toInt ∧ (-1 : Word).toInt < 0 ∧ (1 : Word).toInt * (-1 : Word).toInt < 0 ∧
    ((0x40000000 : Word).toInt * (-2 : Word).toInt < 0 ∧ (0x40000000 : Word).toInt * (-2 : Word).toInt % 2 ^ 32 = 2 ^ 31) ∧
    (0 : Word).toInt * (1 : Word).toInt = 0 ∧
    ((1 : Word) ≠ 0x80000000 ∧ (1 : Word).toInt * (1 : Word).toInt % 2 ^ 32 ≠ 2 ^ 31) := by decide
theorem witness_BlendWithinBounds :
    (0 : Word).toNat ≤ 0x7FFFFFFF ∧ (0x7FFFFFFF : Word).toNat ≤ 0x7FFFFFFF ∧ (0x80000001 : Word) ≠ 0x80000000 := by decide
theorem witness_BlendShiftKeepsEveryBit :
    (0x7FFFFFFF : Word).toNat ≤ 0x7FFFFFFF ∧ (0x7FFFFFFE : Word).toInt ≤ 2 ^ 31 - 2 ∧
    (0x80000000 : Word).toInt ≤ 2 ^ 31 - 2 := by decide
theorem witness_InitLoadsTables : loaded.tv = true ∧ loaded.TablesLoaded := ⟨rfl, loaded_tables⟩
theorem witness_InitLeavesGenerator : ∃ t, exec .init State.reset = .next t := ⟨_, rfl⟩
theorem witness_OperationsWriteOnlyTheirState :
    (∃ t, exec (.rmul 1 2) loaded = .next t) ∧ Instr.rmul 1 2 ≠ .init ∧ (Instr.rmul 1 2).touchesGenerator = false :=
  ⟨⟨_, rfl⟩, nofun, rfl⟩
theorem witness_StepKeepsConsistent :
    (busy [.command (encode .rand)]).Consistent ∧ (busy [.command (encode .rand)]).tv = true ∧
    (∃ t, step (busy [.command (encode .rand)]) = .next t) ∧
    (busy [.reset]).Consistent ∧ (∃ t, step (busy [.reset]) = .next t) :=
  ⟨busy_consistent _, rfl, ⟨_, rfl⟩, busy_consistent _, ⟨_, rfl⟩⟩
theorem witness_TablesPersistUntilReset :
    (busy [.command (encode .rand), .reset]).tv = true ∧
    (∀ r ∈ (busy [.command (encode .rand), .reset]).stream.take 1, r ≠ .reset) ∧
    (busy [.command (encode .rand), .reset]).TablesLoaded ∧
    ∃ t, Sys2Proof.core.run 1 (busy [.command (encode .rand), .reset]) = .next t :=
  ⟨rfl, by simp [busy, State.withStream], (busy_consistent _).2, ⟨_, rfl⟩⟩
theorem witness_TableReadersBeforeInit : State.reset.tv = false ∧ (1 : Word) ≠ 0 := ⟨rfl, by decide⟩
theorem witness_TablesUnobservedBeforeInit :
    State.reset.tv = false ∧
    ({ State.reset with pitcht := Vector.replicate 257 1 } : State) =
      { State.reset with
        sinet := State.reset.sinet, sine2t := State.reset.sine2t, windowt := State.reset.windowt,
        pitcht := ({ State.reset with pitcht := Vector.replicate 257 1 } : State).pitcht,
        expt := State.reset.expt, logt := State.reset.logt } := ⟨rfl, rfl⟩
/-- For SineInterpolates, WindowInterpolates and PitchOperandSaturates; and with them the boundary operands of the last. -/
theorem witness_tables_valid :
    loaded.tv = true ∧ 0x07FFFFFF ≤ (0x07FFFFFF : Word).toInt ∧ (0xF8000000 : Word).toInt ≤ -2 ^ 27 ∧
    0x0FFFFFFF ≤ (0x7FFFFFFF : Word).toInt ∧ (0x80000000 : Word).toInt ≤ -2 ^ 28 := ⟨rfl, by decide⟩
/-- For the statements about a consistent state with its tables loaded. -/
theorem witness_consistent_loaded : loaded.Consistent ∧ loaded.tv = true := ⟨loaded_consistent, rfl⟩
theorem witness_WindowBoundary : loaded.Consistent ∧ loaded.tv = true ∧ loaded.windowt[0] ≠ 0x8000 :=
  ⟨loaded_consistent, rfl, by decide +kernel⟩
theorem witness_MtofInterpolates :
    loaded.tv = true ∧ (134217727 : Int) = min (max (0x7FFFFFFF : Word).toInt (-2 ^ 27)) (2 ^ 27 - 1) ∧
    (-134217728 : Int) = min (max (0x80000000 : Word).toInt (-2 ^ 27)) (2 ^ 27 - 1) := ⟨rfl, by decide⟩
theorem witness_MtofxInterpolates :
    loaded.tv = true ∧ (268435455 : Int) = min (max (0x7FFFFFFF : Word).toInt (-2 ^ 28)) (2 ^ 28 - 1) ∧
    (-268435456 : Int) = min (max (0x80000000 : Word).toInt (-2 ^ 28)) (2 ^ 28 - 1) := ⟨rfl, by decide⟩
/-- The ends of the pitches and of the standard range. -/
theorem witness_MtofxAgreesOnStandardRange :
    loaded.tv = true ∧ -(2 : Int) ^ 28 ≤ 2 ^ 28 - 1 ∧ -2 ^ 27 ≤ (0xF8000000 : Word).toInt ∧ (0xF8000000 : Word).toInt ≤ 2 ^ 27 - 1 ∧
    (0x07FFFFFF : Word).toInt ≤ 2 ^ 27 - 1 := ⟨rfl, by decide⟩
/-- With witness_consistent_loaded for the first clause. -/
theorem witness_PitchZeroIsCentre : loaded.tv = true ∧ loaded.pitcht = Reference.config.tabPitcht := ⟨rfl, rfl⟩
theorem witness_FrequencyRisesWithPitch :
    loaded.Consistent ∧ loaded.tv = true ∧ (0x80000000 : Word).toInt < (0x7FFFFFFF : Word).toInt :=
  ⟨loaded_consistent, rfl, by decide⟩
/-- The lowest octave, and the highest operand. -/
theorem witness_Log2LooksUpMantissa :
    loaded.tv = true ∧ 2 ^ 0 ≤ (1 : Word).toNat ∧ (1 : Word).toNat < 2 ^ (0 + 1) ∧
    2 ^ 31 ≤ (0xFFFFFFFF : Word).toNat ∧ (0xFFFFFFFF : Word).toNat < 2 ^ (31 + 1) := ⟨rfl, by decide⟩
/-- Two operands in different octaves, two in different intervals of one, two in one interval. -/
theorem witness_Log2DoesNotFall :
    loaded.Consistent ∧ loaded.tv = true ∧ 0 < (0x1FF : Word).toNat ∧ (0x1FF : Word).toNat < (0x200 : Word).toNat ∧
    Nat.log2 (0x1FF : Word).toNat ≠ Nat.log2 (0x200 : Word).toNat ∧
    loaded.logt[logMantissa 0x100]? ≠ loaded.logt[logMantissa 0x101]? ∧
    Nat.log2 (0x200 : Word).toNat = Nat.log2 (0x201 : Word).toNat ∧ logMantissa 0x200 = logMantissa 0x201 :=
  ⟨loaded_consistent, rfl, by decide, by decide, by decide +kernel, by decide +kernel, by decide +kernel, by decide +kernel⟩
theorem witness_ReferenceLog2Accuracy :
    loaded.tv = true ∧ loaded.logt = Reference.config.tabLogt ∧ (0xFFFFFFFF : Word) ≠ 0 := ⟨rfl, rfl, by decide⟩
/-- 1.5 and -1024.0 in range; 1024.0 and an infinity out of it. -/
theorem witness_Fl2fTruncatesTowardZero :
    (0x3FC00000 : Word).toNat / 2 ^ 23 % 256 ≠ 255 ∧ floatScaled 0x3FC00000 = 0x00300000 ∧
    (0xC4800000 : Word).toNat / 2 ^ 23 % 256 ≠ 255 ∧ floatScaled 0xC4800000 = -2 ^ 31 ∧
    floatScaled 0x44800000 = 2 ^ 31 ∧ (0x7F800000 : Word).toNat / 2 ^ 23 % 256 = 255 := by
  have h1 : (0x3FC00000 : Word).toNat = 0x3FC00000 := rfl
  have h2 : (0xC4800000 : Word).toNat = 0xC4800000 := rfl
  have h3 : (0x44800000 : Word).toNat = 0x44800000 := rfl
  refine ⟨by decide, ?_, by decide, ?_, ?_, by decide⟩ <;> simp only [floatScaled, floatMagnitude, h1, h2, h3] <;> norm_num
theorem witness_Fl2fRangeByExponent :
    fl2f 0x447FFFFF = some 0x7FFFFF80 ∧ fl2f 0x44800000 = none ∧
    (0x447FFFFF : Word).toNat / 2 ^ 23 % 256 = 136 ∧ (0x34FFFFFF : Word).toNat / 2 ^ 23 % 256 = 105 := by
  decide +kernel
theorem witness_RandAdvancesGenerator : (State.reset.setRng 0).rng = 0 := rfl
theorem witness_GeneratorHasFullPeriod : 2 ^ (0 + 1) ∣ 2 ∧ 2 ^ (31 + 1) ∣ 2 ^ 32 := by decide
theorem witness_GeneratorDependsOnItsRequestsAlone :
    ∃ t, Sys2Proof.core.run 2 (presented [.command (encode (.seed 5)), .command (encode .rand)]) = .next t := ⟨_, rfl⟩
/-- For ResetValueOfGenerator too. -/
theorem witness_ResetRestoresInitialState : (busy [.reset]).stream = [.reset] := rfl
theorem witness_FreeExactlyWhereUnspecified :
    (∃ t, exec (.rmul 1 2) State.reset = .next t) ∧ (Instr.rmul 1 2).specifiedAt State.reset.tv = true ∧
    (∃ t, exec (.sine 0) State.reset = .next t) ∧ (Instr.sine 0).specifiedAt State.reset.tv = false ∧
    (∃ t, exec (.fl2f 0x44800000) loaded = .next t) ∧ (Instr.fl2f 0x44800000).specifiedAt loaded.tv = false ∧
    (∃ t, exec (.fl2f 0x3FC00000) loaded = .next t) ∧ (Instr.fl2f 0x3FC00000).specifiedAt loaded.tv = true :=
  ⟨⟨_, rfl⟩, rfl, ⟨_, rfl⟩, rfl, ⟨_, rfl⟩, by decide +kernel, ⟨_, rfl⟩, by decide +kernel⟩
theorem witness_ResultsIgnoreHistory :
    loaded.tv = true ∧ (loaded.setRng 7).tv = true ∧ loaded.TablesLoaded ∧ (loaded.setRng 7).TablesLoaded ∧
    loaded.cfg = (loaded.setRng 7).cfg ∧ Instr.sine 5 ≠ .rand :=
  ⟨rfl, rfl, loaded_tables, fun _ => ⟨rfl, rfl, rfl, rfl, rfl, rfl⟩, rfl, nofun⟩
theorem witness_CommandsCommute :
    loaded.tv = true ∧ loaded.TablesLoaded ∧ (Instr.sine 5).touchesGenerator = false ∧ Instr.rand.touchesGenerator = true :=
  ⟨rfl, loaded_tables, rfl, rfl⟩
/-- A first step and a run of four from reset; the duties refuse a table reader before INIT, FL2F out of range, a reserved word. -/
theorem witness_SafeRunsAreSpecified :
    (presented [.command (encode (.fl2f 0x3FC00000))]).stream = [.command (encode (.fl2f 0x3FC00000))] ∧
    (Request.command (encode (.fl2f 0x3FC00000))).isSafe State.reset.tv = true ∧
    dutiesKept (presented [.command (encode .init), .command (encode (.sine 5)), .reset, .command (encode (.log2 0))]).tv
      ((presented [.command (encode .init), .command (encode (.sine 5)), .reset, .command (encode (.log2 0))]).stream.take 4) =
      true ∧
    dutiesKept false [.command (encode (.sine 5))] = false ∧ dutiesKept true [.command (encode (.fl2f 0x44800000))] = false ∧
    dutiesKept true [.command ⟨0x13, 0, 0, 0⟩] = false :=
  ⟨rfl, by decide +kernel, by decide +kernel, by decide +kernel, by decide +kernel, by decide +kernel⟩

end Sys2Proof.Tests
end

section
/-! PROOFS of the statements about the state (spec/10_state.md): what an operation writes, what a step and a run keep. -/

namespace Sys2Proof.Proofs

open Sys2Proof Sys2Proof.Machine

/-! ## What an operation writes -/

/-- `exec_cases` seen from the tables: INIT loads them, and every other operation writes at most the generator word, the
response and the supply of free values (R23). -/
theorem exec_init_or_frame {i : Instr} {s t : State} (h : exec i s = .next t) :
    (i = .init ∧ t = s.loadTables.respond .completion) ∨
    (i ≠ .init ∧ ∃ g r n, t = { s with rng := g, response := r, freeCount := n }) := by
  rcases exec_cases h with hinit | ⟨rfl, ht⟩ | ⟨a, rfl, ht⟩ | ⟨hi, -, ⟨v, ht⟩ | ht⟩
  · exact .inl hinit
  · exact .inr ⟨nofun, _, _, _, ht⟩
  · exact .inr ⟨nofun, _, _, _, ht⟩
  · exact .inr ⟨hi, _, _, _, ht⟩
  · exact .inr ⟨hi, _, _, _, ht⟩

/-- An operation other than INIT writes no table and not `TV` (R23, R52). -/
theorem exec_keeps_tables {i : Instr} {s t : State} (hi : i ≠ .init) (h : exec i s = .next t) :
    t.sinet = s.sinet ∧ t.sine2t = s.sine2t ∧ t.windowt = s.windowt ∧ t.pitcht = s.pitcht ∧
      t.expt = s.expt ∧ t.logt = s.logt ∧ t.tv = s.tv := by
  rcases exec_init_or_frame h with ⟨hinit, -⟩ | ⟨-, g, r, n, rfl⟩
  · exact absurd hinit hi
  · exact ⟨rfl, rfl, rfl, rfl, rfl, rfl, rfl⟩

/-- An operation other than RAND and SEED does not write `RNG` (R205). -/
theorem exec_keeps_rng {i : Instr} {s t : State} (hi : i.touchesGenerator = false) (h : exec i s = .next t) :
    t.rng = s.rng := by
  rcases exec_cases h with ⟨-, rfl⟩ | ⟨rfl, -⟩ | ⟨a, rfl, -⟩ | ⟨-, -, ⟨v, rfl⟩ | rfl⟩
  · rfl
  · cases hi
  · cases hi
  · rfl
  · rfl

/-- No operation writes the configuration (R8). -/
theorem exec_keeps_cfg {i : Instr} {s t : State} (h : exec i s = .next t) : t.cfg = s.cfg := by
  rcases exec_init_or_frame h with ⟨-, rfl⟩ | ⟨-, g, r, n, rfl⟩ <;> rfl

/-- No operation writes the requests presented (log 1). -/
theorem exec_keeps_stream {i : Instr} {s t : State} (h : exec i s = .next t) : t.stream = s.stream := by
  rcases exec_init_or_frame h with ⟨-, rfl⟩ | ⟨-, g, r, n, rfl⟩ <;> rfl

/-- No operation clears `TV` (R30). -/
theorem exec_keeps_tv {i : Instr} {s t : State} (htv : s.tv = true) (h : exec i s = .next t) : t.tv = true := by
  rcases exec_init_or_frame h with ⟨-, rfl⟩ | ⟨-, g, r, n, rfl⟩
  · rfl
  · exact htv

/-! ## Tables that are loaded -/

theorem tablesLoaded_loadTables (s : State) : s.loadTables.TablesLoaded := fun _ => ⟨rfl, rfl, rfl, rfl, rfl, rfl⟩

/-- While `TV = 0` nothing is claimed of the tables (R232). -/
theorem tablesLoaded_of_not_tv {s : State} (h : s.tv = false) : s.TablesLoaded := by
  simp [State.TablesLoaded, h]

/-- INIT loads the tables, and every other operation leaves them as they are (R35). -/
theorem exec_keeps_tablesLoaded {i : Instr} {s t : State} (hs : s.TablesLoaded) (h : exec i s = .next t) :
    t.TablesLoaded := by
  rcases exec_init_or_frame h with ⟨-, rfl⟩ | ⟨-, g, r, n, rfl⟩
  · exact tablesLoaded_loadTables s
  · exact hs

/-! ## What a step keeps -/

/-- No step and no reset writes the configuration (R37, R233). -/
theorem step_keeps_cfg {s t : State} (h : step s = .next t) : t.cfg = s.cfg := by
  rcases step_cases h with ⟨-, rfl⟩ | ⟨rest, -, rfl⟩ | ⟨p, rest, i, -, -, he⟩
  · rfl
  · rfl
  · exact exec_keeps_cfg (s := s.withStream rest) he

/-- A step takes the first request off the stream, if there is one (R56). -/
theorem step_stream {s t : State} (h : step s = .next t) : t.stream = s.stream.tail := by
  rcases step_cases h with ⟨hs, rfl⟩ | ⟨rest, hs, rfl⟩ | ⟨p, rest, i, hs, -, he⟩
  · rw [hs, List.tail_nil]
  · rw [hs, List.tail_cons, State.takeReset_stream, State.withStream_stream]
  · rw [hs, List.tail_cons, exec_keeps_stream he, State.withStream_stream]

/-- Loaded tables stay loaded over a command and an idle step; after a reset `TV` is 0 (R35). -/
theorem step_keeps_tablesLoaded {s t : State} (hs : s.TablesLoaded) (h : step s = .next t) : t.TablesLoaded := by
  rcases step_cases h with ⟨-, rfl⟩ | ⟨rest, -, rfl⟩ | ⟨p, rest, i, -, -, he⟩
  · exact hs
  · exact tablesLoaded_of_not_tv (State.takeReset_tv _)
  · exact exec_keeps_tablesLoaded (s := s.withStream rest) hs he

/-- Only a reset clears `TV` (R30). -/
theorem step_keeps_tv {s t : State} (htv : s.tv = true) (hreset : ∀ r ∈ s.stream.head?, r ≠ .reset)
    (h : step s = .next t) : t.tv = true := by
  rcases step_cases h with ⟨-, rfl⟩ | ⟨rest, hs, -⟩ | ⟨p, rest, i, -, -, he⟩
  · exact htv
  · exact absurd rfl (hreset .reset (by simp [hs]))
  · exact exec_keeps_tv (s := s.withStream rest) htv he

/-! ## Runs -/

/-- A run of `k + 1` steps that answers is a step that answers and a run of `k` steps from there. -/
theorem run_succ_cases {k : Nat} {s t : State} (h : Sys2Proof.core.run (k + 1) s = .next t) :
    ∃ u : State, step s = .next u ∧ Sys2Proof.core.run k u = .next t := by
  simp only [Host.Core.run] at h
  split at h
  · next u hu => exact ⟨u, hu, h⟩
  · cases h
  · cases h

/-- The induction over a run, once: what every step keeps that serves only requests of the kind `Q`, a run keeps that serves
only such requests. -/
theorem run_keeps {P : State → Prop} {Q : Request → Prop}
    (hstep : ∀ s t, (∀ r ∈ s.stream.head?, Q r) → P s → step s = .next t → P t) {k : Nat} {s t : State}
    (hQ : ∀ r ∈ s.stream.take k, Q r) (hP : P s) (h : Sys2Proof.core.run k s = .next t) : P t := by
  induction k generalizing s with
  | zero =>
    cases h
    exact hP
  | succ k ih =>
    obtain ⟨u, hu, hrun⟩ := run_succ_cases h
    have hhead : ∀ r ∈ s.stream.head?, Q r := fun r hr => hQ r (List.mem_of_mem_head? (by simpa [List.head?_take] using hr))
    have htail : ∀ r ∈ u.stream.take k, Q r := fun r hr =>
      hQ r (List.mem_of_mem_tail (by simpa [step_stream hu, List.tail_take_eq_take_tail] using hr))
    exact ih htail (hstep s u hhead hP hu) hrun

/-- What a run without a reset keeps of a machine whose tables have been loaded from the configuration `cfg` (R35). -/
structure LoadedFrom (cfg : TableConfig) (s : State) : Prop where
  tv : s.tv = true
  tables : s.TablesLoaded
  cfg : s.cfg = cfg

theorem step_keeps_loadedFrom {cfg : TableConfig} {s t : State} (hreset : ∀ r ∈ s.stream.head?, r ≠ .reset)
    (hs : LoadedFrom cfg s) (h : step s = .next t) : LoadedFrom cfg t where
  tv := step_keeps_tv hs.tv hreset h
  tables := step_keeps_tablesLoaded hs.tables h
  cfg := (step_keeps_cfg h).trans hs.cfg

/-! ## The last response -/

/-- The end of an operation does not look at the response it replaces. -/
@[simp] theorem answer_respond (s : State) (r : Response) (x : Option Word) : (s.respond r).answer x = s.answer x := by
  cases x <;> rfl

@[simp] theorem complete_respond (s : State) (r : Response) : (s.respond r).complete = s.complete := rfl

theorem setRng_respond (s : State) (r : Response) (v : Word) : (s.respond r).setRng v = (s.setRng v).respond r := rfl
theorem loadTables_respond (s : State) (r : Response) : (s.respond r).loadTables = s.loadTables.respond r := rfl

/-- A table read does not look at the response. -/
@[simp] theorem element_respond {α : Type} {n : Nat} (s : State) (r : Response) (t : Vector α n) (i : Int) :
    (s.respond r).element t i = s.element t i :=
  State.element_congr (State.respond_tv s r) t i

/-- No operation reads the result of an earlier one (R20): a table reader reads elements, RAND the generator word, and each
replaces the response. -/
theorem exec_respond (i : Instr) (s : State) (r : Response) : exec i (s.respond r) = exec i s := by
  cases i with
  | rmul a b => simp only [exec_rmul, answer_respond]
  | rmla a b c => simp only [exec_rmla, answer_respond]
  | rmls a b c => simp only [exec_rmls, answer_respond]
  | init => simp only [exec_init, loadTables_respond, complete_respond]
  | sine a => simp only [exec_sine, sineResult, State.respond_sine2t, element_respond, answer_respond]
  | window a => simp only [exec_window, windowResult, State.respond_windowt, element_respond, answer_respond]
  | mtof a => simp only [exec_mtof, mtofResult, pitchResult, State.respond_pitcht, element_respond, answer_respond]
  | mtofx a => simp only [exec_mtofx, mtofResult, pitchResult, State.respond_pitcht, element_respond, answer_respond]
  | log2 a => simp only [exec_log2, log2Result, State.respond_logt, element_respond, answer_respond]
  | i2f a => simp only [exec_i2f, answer_respond]
  | f2i a => simp only [exec_f2i, answer_respond]
  | fl2f a => simp only [exec_fl2f, answer_respond]
  | rand => simp only [exec_rand, State.respond_rng, setRng_respond, answer_respond]
  | seed a => simp only [exec_seed, setRng_respond, complete_respond]

/-! ## The statements -/

/-- Settles O18: the configuration is kept by `step_keeps_cfg`, the loaded tables by `step_keeps_tablesLoaded`. -/
theorem stepKeepsConsistent : Obligations.StepKeepsConsistent := by
  intro s t ⟨hvalid, hloaded⟩ h
  refine ⟨?_, step_keeps_tablesLoaded hloaded h⟩
  rw [step_keeps_cfg h]
  exact hvalid

/-- Settles O20, by the induction over a run with the invariant `LoadedFrom` the configuration at its start. -/
theorem tablesPersistUntilReset : Obligations.TablesPersistUntilReset := by
  intro k s t htv hreset hloaded h
  have ht : LoadedFrom s.cfg t := run_keeps (fun _ _ => step_keeps_loadedFrom) hreset ⟨htv, hloaded, rfl⟩ h
  have htables := ht.tables ht.tv
  rw [ht.cfg] at htables
  exact ⟨ht.tv, htables⟩

/-- Settles O17: one frame lemma for each part of the state. -/
theorem operationsWriteOnlyTheirState : Obligations.OperationsWriteOnlyTheirState := by
  intro i s t h
  exact ⟨fun hi => exec_keeps_tables hi h, fun hi => exec_keeps_rng hi h, exec_keeps_cfg h, exec_keeps_stream h⟩

/-- Settles O53, by `exec_respond`. -/
theorem responseIsNeverRead : Obligations.ResponseIsNeverRead := by
  intro i s r
  exact exec_respond i s r

end Sys2Proof.Proofs
end

section
/-! PROOFS of the statements about the memory (spec/20_memory.md): the indices an operation computes, what the table readers
read while `TV = 1`, and what a step does with the stream. -/

namespace Sys2Proof.Proofs

open Sys2Proof Sys2Proof.Machine

/-! ## Index ranges -/

/-- A phase selects one of the 4096 intervals of `sine2t` (R141). -/
theorem sineInterval_lt (a : Word) : a.toNat / 2 ^ 20 < 4096 := by
  have := a.isLt
  omega

/-- A phase selects one of the 1024 intervals of `windowt` (R142). -/
theorem windowInterval_lt (a : Word) : a.toNat / 2 ^ 22 < 1024 := by
  have := a.isLt
  omega

/-- A pitch clamped to `22 + m` bits lies less than `2^m` table steps away from pitch zero, or exactly `2^m` below it (R165). -/
theorem pitchIndex_ssat_bounds {m : Nat} (hm : m ≤ 10) (a : Word) :
    128 - 2 ^ m ≤ pitchIndex (ssat (m + 22) a) ∧ pitchIndex (ssat (m + 22) a) < 128 + 2 ^ m := by
  have hpow : (2 : Int) ^ (m + 22 - 1) = 2 ^ m * 2 ^ 21 := pow_add 2 m 21
  rw [pitchIndex_eq, ssat_toInt (by omega) (by omega), hpow]
  have hpos : (0 : Int) < 2 ^ m := by positivity
  omega

/-- MTOF's index (R165). -/
theorem pitchIndex_satStd_bounds (a : Word) :
    64 ≤ pitchIndex (ssat Config.satStd a) ∧ pitchIndex (ssat Config.satStd a) ≤ 191 := by
  obtain ⟨hlow, hhigh⟩ := pitchIndex_ssat_bounds (m := 6) (by omega) a
  exact ⟨hlow, Int.le_of_lt_add_one hhigh⟩

/-- MTOFX's index (R165). -/
theorem pitchIndex_satExt_bounds (a : Word) :
    0 ≤ pitchIndex (ssat Config.satExt a) ∧ pitchIndex (ssat Config.satExt a) ≤ 255 := by
  obtain ⟨hlow, hhigh⟩ := pitchIndex_ssat_bounds (m := 7) (by omega) a
  exact ⟨hlow, Int.le_of_lt_add_one hhigh⟩

/-! ## Table reads while `TV = 1` -/

/-- Two neighbouring elements in range, as the interpolators read them (R15). -/
theorem element_pair_of_tv {α : Type} {n : Nat} {s : State} (htv : s.tv = true) (t : Vector α n) {k : Nat} (hk : k + 1 < n) :
    s.element t (k : Int) = some t[k] ∧ s.element t ((k : Int) + 1) = some t[k + 1] :=
  ⟨State.element_of_tv htv t (Int.natCast_nonneg k) (Nat.lt_of_succ_lt hk),
    State.element_of_tv htv t (Int.natCast_nonneg (k + 1)) hk⟩

/-- SINE's result is defined while `TV = 1` (R53, R141). -/
theorem sineResult_of_tv {s : State} (htv : s.tv = true) (a : Word) :
    sineResult s a = some (blend (s.sine2t[a.toNat / 2 ^ 20]'(Nat.lt_succ_of_lt (sineInterval_lt a)))
      (s.sine2t[a.toNat / 2 ^ 20 + 1]'(Nat.succ_lt_succ (sineInterval_lt a))) (sineWeight a)) := by
  obtain ⟨hlow, hhigh⟩ := element_pair_of_tv htv s.sine2t (Nat.succ_lt_succ (sineInterval_lt a))
  rw [sineResult, sineIndex_eq, hlow, hhigh, blendRead_some]

/-- WINDOW's result is defined while `TV = 1` (R53, R142). -/
theorem windowResult_of_tv {s : State} (htv : s.tv = true) (a : Word) :
    windowResult s a = some (blend (widenWindow (s.windowt[a.toNat / 2 ^ 22]'(Nat.lt_succ_of_lt (windowInterval_lt a))))
      (widenWindow (s.windowt[a.toNat / 2 ^ 22 + 1]'(Nat.succ_lt_succ (windowInterval_lt a)))) (windowWeight a)) := by
  obtain ⟨hlow, hhigh⟩ := element_pair_of_tv htv s.windowt (Nat.succ_lt_succ (windowInterval_lt a))
  rw [windowResult, windowIndex_eq, hlow, hhigh, Option.map_some, Option.map_some, blendRead_some]

/-- The result for a pitch whose index and next index lie in `pitcht` is defined while `TV = 1` (R53, R163). -/
theorem pitchResult_of_tv {s : State} (htv : s.tv = true) {p : Word} {k : Nat} (hp : pitchIndex p = k) (hk : k + 1 < 257) :
    pitchResult s p = some (blend s.pitcht[k] s.pitcht[k + 1] (pitchWeight p)) := by
  obtain ⟨hlow, hhigh⟩ := element_pair_of_tv htv s.pitcht hk
  rw [pitchResult, hp, hlow, hhigh, blendRead_some]

/-- LOG2 of 0 reads no table (R181). -/
theorem log2Result_zero (s : State) : log2Result s 0 = some Config.log2Zero := rfl

/-- LOG2's result for any other operand is defined while `TV = 1` (R53, R181). -/
theorem log2Result_of_tv {s : State} (htv : s.tv = true) {a : Word} (ha : a ≠ 0) :
    log2Result s a = some (logValue (msb a) (s.logt[logMantissa a]'(logMantissa_lt a))) := by
  have helem : s.element s.logt (logMantissa a) = some (s.logt[logMantissa a]'(logMantissa_lt a)) :=
    State.element_of_tv htv s.logt (Int.natCast_nonneg _) (logMantissa_lt a)
  have hzero : isZero a = false := beq_false_of_ne ha
  simp [log2Result, hzero, helem]

/-! ## Responses of a machine whose tables are loaded -/

theorem LoadedFrom.sine2t_eq {c : TableConfig} {s : State} (hs : LoadedFrom c s) : s.sine2t = c.tabSine2t := by
  obtain ⟨-, hsine2t, -⟩ := hs.tables hs.tv
  rw [hsine2t, hs.cfg]

theorem LoadedFrom.windowt_eq {c : TableConfig} {s : State} (hs : LoadedFrom c s) : s.windowt = c.tabWindowt := by
  obtain ⟨-, -, hwindowt, -⟩ := hs.tables hs.tv
  rw [hwindowt, hs.cfg]

theorem LoadedFrom.pitcht_eq {c : TableConfig} {s : State} (hs : LoadedFrom c s) : s.pitcht = c.tabPitcht := by
  obtain ⟨-, -, -, hpitcht, -⟩ := hs.tables hs.tv
  rw [hpitcht, hs.cfg]

theorem LoadedFrom.logt_eq {c : TableConfig} {s : State} (hs : LoadedFrom c s) : s.logt = c.tabLogt := by
  obtain ⟨-, -, -, -, -, hlogt⟩ := hs.tables hs.tv
  rw [hlogt, hs.cfg]

/-- The operation answers one and the same response in every state whose tables have been loaded from `c`. -/
def AnswersAlike (c : TableConfig) (i : Instr) : Prop :=
  ∃ r : Response, ∀ s, LoadedFrom c s → ∃ t, exec i s = .next t ∧ t.response = r

/-- It is enough that the result word is the same. -/
theorem answersAlike_of_result {c : TableConfig} {i : Instr} {f : State → Option Word} {v : Word}
    (hexec : ∀ s, exec i s = s.answer (f s)) (hf : ∀ s, LoadedFrom c s → f s = some v) : AnswersAlike c i := by
  refine ⟨.result v, fun s hs => ⟨s.respond (.result v), ?_, State.respond_response s _⟩⟩
  rw [hexec, hf s hs, State.answer_some]

theorem answersAlike_sine (c : TableConfig) (a : Word) : AnswersAlike c (.sine a) :=
  answersAlike_of_result (exec_sine a) fun s hs => by rw [sineResult_of_tv hs.tv, hs.sine2t_eq]

theorem answersAlike_window (c : TableConfig) (a : Word) : AnswersAlike c (.window a) :=
  answersAlike_of_result (exec_window a) fun s hs => by rw [windowResult_of_tv hs.tv, hs.windowt_eq]

/-- MTOF and MTOFX alike: what matters of the width `n` is that the clamped pitch has its index in the table (R166). -/
theorem answersAlike_mtofResult {c : TableConfig} {i : Instr} {n : Nat} {a : Word}
    (hexec : ∀ s, exec i s = s.answer (mtofResult n s a)) (h0 : 0 ≤ pitchIndex (ssat n a))
    (h255 : pitchIndex (ssat n a) ≤ 255) : AnswersAlike c i := by
  obtain ⟨k, hk⟩ := Int.eq_ofNat_of_zero_le h0
  have hlt : k + 1 < 257 := by omega
  exact answersAlike_of_result hexec fun s hs => by rw [mtofResult, pitchResult_of_tv hs.tv hk hlt, hs.pitcht_eq]

theorem answersAlike_mtof (c : TableConfig) (a : Word) : AnswersAlike c (.mtof a) := by
  obtain ⟨hlow, hhigh⟩ := pitchIndex_satStd_bounds a
  exact answersAlike_mtofResult (exec_mtof a) (by omega) (by omega)

theorem answersAlike_mtofx (c : TableConfig) (a : Word) : AnswersAlike c (.mtofx a) := by
  obtain ⟨hlow, hhigh⟩ := pitchIndex_satExt_bounds a
  exact answersAlike_mtofResult (exec_mtofx a) hlow hhigh

theorem answersAlike_log2 (c : TableConfig) (a : Word) : AnswersAlike c (.log2 a) := by
  by_cases ha : a = 0
  · subst ha
    exact answersAlike_of_result (exec_log2 0) fun s _ => log2Result_zero s
  · exact answersAlike_of_result (exec_log2 a) fun s hs => by rw [log2Result_of_tv hs.tv ha, hs.logt_eq]

/-- Only RAND answers from more than its operands and the configuration: it reads the generator word (R56(c), R205). -/
theorem answersAlike_of_ne_rand (c : TableConfig) {i : Instr} (hi : i ≠ .rand) : AnswersAlike c i := by
  cases i with
  | rmul a b => exact answersAlike_of_result (exec_rmul a b) fun _ _ => rfl
  | rmla a b d => exact answersAlike_of_result (exec_rmla a b d) fun _ _ => rfl
  | rmls a b d => exact answersAlike_of_result (exec_rmls a b d) fun _ _ => rfl
  | init => exact ⟨.completion, fun s _ => ⟨_, exec_init s, rfl⟩⟩
  | sine a => exact answersAlike_sine c a
  | window a => exact answersAlike_window c a
  | mtof a => exact answersAlike_mtof c a
  | mtofx a => exact answersAlike_mtofx c a
  | log2 a => exact answersAlike_log2 c a
  | i2f a => exact answersAlike_of_result (exec_i2f a) fun _ _ => rfl
  | f2i a => exact answersAlike_of_result (exec_f2i a) fun _ _ => rfl
  | fl2f a => exact answersAlike_of_result (exec_fl2f a) fun _ _ => rfl
  | rand => exact absurd rfl hi
  | seed a => exact ⟨.completion, fun s _ => ⟨_, exec_seed a s, rfl⟩⟩

/-! ## A command presented -/

/-- A legal packet is taken off the stream and its instruction executed (R56, R213). -/
theorem step_of_command {s : State} {p : Packet} {rest : List Request} {i : Instr} (hs : s.stream = .command p :: rest)
    (hp : decode p = .ok i) : step s = exec i (s.withStream rest) := by
  simp only [step, hs, hp]

/-! ## The statements -/

/-- Settles O7, by `step_stream` and `step_keeps_cfg`. -/
theorem oneRequestPerStep : Obligations.OneRequestPerStep := by
  intro s t h
  exact ⟨step_stream h, step_keeps_cfg h⟩

/-- Settles O21: the phases' indices are their top bits, the pitches' are bounded by the clamp before them. -/
theorem everyIndexInRange : Obligations.EveryIndexInRange := by
  intro a
  have hsine := sineInterval_lt a
  have hwindow := windowInterval_lt a
  obtain ⟨hstd, hstd'⟩ := pitchIndex_satStd_bounds a
  obtain ⟨hext, hext'⟩ := pitchIndex_satExt_bounds a
  have hlog := logMantissa_lt a
  rw [sineIndex_eq, windowIndex_eq]
  exact ⟨by omega, by omega, by omega, by omega, hstd, hstd', hext, Int.add_le_add_right hext' 1, by omega⟩

/-- Settles O54: both states have their tables loaded from one configuration, so `answersAlike_of_ne_rand` gives one response
for both. -/
theorem resultsIgnoreHistory : Obligations.ResultsIgnoreHistory := by
  intro i s s' htv htv' hloaded hloaded' hcfg hi
  obtain ⟨r, hr⟩ := answersAlike_of_ne_rand s.cfg hi
  obtain ⟨t, ht, hresp⟩ := hr s ⟨htv, hloaded, rfl⟩
  obtain ⟨t', ht', hresp'⟩ := hr s' ⟨htv', hloaded', hcfg.symm⟩
  exact ⟨t, t', ht, ht', hresp.trans hresp'.symm⟩

/-- Settles O1, by `step_of_command`. -/
theorem stepRunsDecodedCommand : Obligations.StepRunsDecodedCommand := by
  intro s p rest i hs hp
  exact step_of_command hs hp

end Sys2Proof.Proofs
end

section
/-! PROOFS of the statements about the encoding (spec/30_encoding.md): the fields of `W0`, the two directions between a packet and
its instruction, which packets are reserved, and what a step answers. -/

namespace Sys2Proof.Proofs

open Sys2Proof Sys2Proof.Machine

/-! ## The fields of `W0` -/

theorem zeroField_toNat (p : Packet) : p.zeroField.toNat = p.w0.toNat / 256 := by
  have hlt := p.w0.isLt
  simp only [Packet.zeroField, BitVec.extractLsb'_toNat, Nat.shiftRight_eq_div_pow]
  omega

/-- The test of R73 on `ZERO`, as a bound on `W0`. -/
theorem zeroField_eq_zero_iff (p : Packet) : p.zeroField = 0 ↔ p.w0.toNat / 256 = 0 := by
  rw [← BitVec.toNat_inj, zeroField_toNat]
  rfl

/-- With `ZERO` clear, `GRP` and `FN` make up `W0` (R70). -/
theorem w0_eq_grp_fn {p : Packet} (h : p.zeroField = 0) : p.w0 = BitVec.ofNat 32 (16 * p.grp.toNat + p.fn.toNat) := by
  rw [zeroField_eq_zero_iff] at h
  apply BitVec.eq_of_toNat_eq
  simp only [Packet.grp, Packet.fn, BitVec.extractLsb'_toNat, BitVec.toNat_ofNat, Nat.shiftRight_eq_div_pow]
  omega

/-- With `ZERO` clear, `W0` is its byte `OP` (R70). -/
theorem w0_eq_op {p : Packet} (h : p.zeroField = 0) : p.w0 = (p.w0.extractLsb' 0 8).setWidth 32 := by
  rw [zeroField_eq_zero_iff] at h
  apply BitVec.eq_of_toNat_eq
  simp only [BitVec.toNat_setWidth, BitVec.extractLsb'_toNat, Nat.shiftRight_zero]
  omega

/-! ## A packet and its instruction -/

/-- What the statements of `Laws.PacketForm` say, for every instruction. -/
theorem packetForm (i : Instr) : Laws.PacketForm.Statement i := by
  cases i with
  | rmul a b => exact Laws.PacketForm.rmul a b
  | rmla a b c => exact Laws.PacketForm.rmla a b c
  | rmls a b c => exact Laws.PacketForm.rmls a b c
  | init => exact Laws.PacketForm.init
  | sine a => exact Laws.PacketForm.sine a
  | window a => exact Laws.PacketForm.window a
  | mtof a => exact Laws.PacketForm.mtof a
  | mtofx a => exact Laws.PacketForm.mtofx a
  | log2 a => exact Laws.PacketForm.log2 a
  | i2f a => exact Laws.PacketForm.i2f a
  | f2i a => exact Laws.PacketForm.f2i a
  | fl2f a => exact Laws.PacketForm.fl2f a
  | rand => exact Laws.PacketForm.rand
  | seed a => exact Laws.PacketForm.seed a

theorem encode_wellFormed (i : Instr) : (encode i).wellFormed = true := by
  obtain ⟨hwf, -, -⟩ := packetForm i
  exact hwf

theorem keep_encode (i : Instr) : (encode i).keep i.operandsUsed = encode i := by
  obtain ⟨-, -, hkeep⟩ := packetForm i
  exact hkeep

/-- Every row of the opcode map is the packet of its instruction, but for the words the instruction does not use (R72): the
split leaves one goal per row, and none for `none`. -/
theorem keep_of_opcodeMap {g f : Nat} {a b c : Word} {i : Instr} (h : opcodeMap g f a b c = some i) :
    Packet.keep i.operandsUsed ⟨BitVec.ofNat 32 (16 * g + f), a, b, c⟩ = encode i := by
  unfold opcodeMap at h
  split at h <;> cases h <;> rfl

/-- A packet decodes to `i` exactly when `ZERO` is clear and `GRP` and `FN` select the row of `i` (R73). -/
theorem decode_eq_ok_iff_row (p : Packet) (i : Instr) :
    decode p = .ok i ↔ p.zeroField = 0 ∧ opcodeMap p.grp.toNat p.fn.toNat p.w1 p.w2 p.w3 = some i := by
  unfold decode
  split
  · next hzero =>
    split
    · next j hj => simp only [hzero, hj, true_and, Except.ok.injEq, Option.some.injEq]
    · next hnone => simp only [hnone, reduceCtorEq, and_false]
  · next hzero => simp only [hzero, reduceCtorEq, false_and]

theorem keep_of_decode {p : Packet} {i : Instr} (h : decode p = .ok i) : p.keep i.operandsUsed = encode i := by
  obtain ⟨hzero, hrow⟩ := (decode_eq_ok_iff_row p i).mp h
  have hkeep := keep_of_opcodeMap hrow
  rwa [← w0_eq_grp_fn hzero] at hkeep

/-- The packet `p` with `W0` and its first `n` operand words overwritten by those of `q`. -/
def overlay (n : Nat) (q p : Packet) : Packet :=
  ⟨q.w0, if 1 ≤ n then q.w1 else p.w1, if 2 ≤ n then q.w2 else p.w2, if 3 ≤ n then q.w3 else p.w3⟩

/-- A packet is what it keeps, laid over itself. -/
theorem overlay_keep (n : Nat) (p : Packet) : overlay n (p.keep n) p = p := by
  obtain ⟨w, a, b, c⟩ := p
  simp +contextual only [overlay, Packet.keep, if_true, ite_self]

/-- The row of a packet read off its `W0`. -/
theorem decode_of_row {p : Packet} {i : Instr} (w : Word) (hw : p.w0 = w) (hzero : w.extractLsb' 8 24 = 0)
    (hrow : opcodeMap (w.extractLsb' 4 4).toNat (w.extractLsb' 0 4).toNat p.w1 p.w2 p.w3 = some i) : decode p = .ok i := by
  subst hw
  exact (decode_eq_ok_iff_row p i).mpr ⟨hzero, hrow⟩

/-- The packet of `i` decodes to `i` whatever stands in the operand words that `i` does not use (R71). -/
theorem decode_overlay_encode (i : Instr) (p : Packet) : decode (overlay i.operandsUsed (encode i) p) = .ok i := by
  cases i with
  | rmul => exact decode_of_row 0x10 rfl rfl rfl
  | rmla => exact decode_of_row 0x11 rfl rfl rfl
  | rmls => exact decode_of_row 0x12 rfl rfl rfl
  | init => exact decode_of_row 0x20 rfl rfl rfl
  | sine => exact decode_of_row 0x30 rfl rfl rfl
  | window => exact decode_of_row 0x31 rfl rfl rfl
  | mtof => exact decode_of_row 0x40 rfl rfl rfl
  | mtofx => exact decode_of_row 0x41 rfl rfl rfl
  | log2 => exact decode_of_row 0x50 rfl rfl rfl
  | i2f => exact decode_of_row 0x60 rfl rfl rfl
  | f2i => exact decode_of_row 0x61 rfl rfl rfl
  | fl2f => exact decode_of_row 0x62 rfl rfl rfl
  | rand => exact decode_of_row 0x70 rfl rfl rfl
  | seed => exact decode_of_row 0x71 rfl rfl rfl

theorem decode_of_keep {p : Packet} {i : Instr} (h : p.keep i.operandsUsed = encode i) : decode p = .ok i := by
  have hdecode := decode_overlay_encode i p
  rwa [← h, overlay_keep] at hdecode

/-- A packet decodes to `i` exactly when, but for the operand words that `i` does not use, it is the packet of `i` (R71, R73). -/
theorem decode_eq_ok_iff (p : Packet) (i : Instr) : decode p = .ok i ↔ p.keep i.operandsUsed = encode i :=
  ⟨keep_of_decode, decode_of_keep⟩

theorem decode_encode (i : Instr) : decode (encode i) = .ok i := decode_of_keep (keep_encode i)

/-! ## Which packets are reserved -/

/-- The fourteen values of `W0` of R72: a byte `OP` of the list below a clear `ZERO`. -/
def commandWords : List Word := definedOpcodes.map (·.setWidth 32)

/-- The two tests of the well-formedness check (R70, R72). -/
theorem wellFormed_iff_fields (p : Packet) :
    p.wellFormed = true ↔ p.zeroField = 0 ∧ p.w0.extractLsb' 0 8 ∈ definedOpcodes := by
  simp only [Packet.wellFormed, Packet.zeroFieldOk, Packet.opcodeOk, Bool.and_eq_true, beq_iff_eq, List.contains_iff_mem]

theorem mem_commandWords_of_wellFormed {p : Packet} (h : p.wellFormed = true) : p.w0 ∈ commandWords := by
  obtain ⟨hzero, hop⟩ := (wellFormed_iff_fields p).mp h
  rw [w0_eq_op hzero]
  exact List.mem_map_of_mem hop

/-- Each of the fourteen words has a row, whatever the operand words are (R71, R73). -/
theorem exists_decode_of_mem_commandWords {p : Packet} (h : p.w0 ∈ commandWords) : ∃ i, decode p = .ok i := by
  obtain ⟨w, a, b, c⟩ := p
  have hrows : ∀ v ∈ commandWords, ∃ i, decode ⟨v, a, b, c⟩ = .ok i := by
    simp only [commandWords, definedOpcodes, List.map_cons, List.map_nil, List.forall_mem_cons]
    exact ⟨⟨.rmul a b, decode_of_keep rfl⟩, ⟨.rmla a b c, decode_of_keep rfl⟩, ⟨.rmls a b c, decode_of_keep rfl⟩,
      ⟨.init, decode_of_keep rfl⟩, ⟨.sine a, decode_of_keep rfl⟩, ⟨.window a, decode_of_keep rfl⟩,
      ⟨.mtof a, decode_of_keep rfl⟩, ⟨.mtofx a, decode_of_keep rfl⟩, ⟨.log2 a, decode_of_keep rfl⟩,
      ⟨.i2f a, decode_of_keep rfl⟩, ⟨.f2i a, decode_of_keep rfl⟩, ⟨.fl2f a, decode_of_keep rfl⟩,
      ⟨.rand, decode_of_keep rfl⟩, ⟨.seed a, decode_of_keep rfl⟩, nofun⟩
  exact hrows w h

theorem wellFormed_of_decode {p : Packet} {i : Instr} (h : decode p = .ok i) : p.wellFormed = true := by
  have hkept : (p.keep i.operandsUsed).wellFormed = true := by
    rw [keep_of_decode h]
    exact encode_wellFormed i
  exact hkept

/-- The well-formedness check and the decoder agree (R73, R76). -/
theorem wellFormed_iff_exists_decode (p : Packet) : p.wellFormed = true ↔ ∃ i, decode p = .ok i :=
  ⟨fun h => exists_decode_of_mem_commandWords (mem_commandWords_of_wellFormed h), fun ⟨_, hi⟩ => wellFormed_of_decode hi⟩

/-- A packet that fails the check is reserved, by name. -/
theorem exists_error_of_not_wellFormed {p : Packet} (h : p.wellFormed = false) : ∃ why, decode p = .error why := by
  cases hp : decode p with
  | ok i => exact absurd (wellFormed_of_decode hp) (by simp [h])
  | error why => exact ⟨why, rfl⟩

/-- The reason named is the first test that the word fails (log 3). -/
theorem decode_error_reason {p : Packet} {why : Reserved} (h : decode p = .error why) :
    why = if p.w0.toNat / 256 = 0 then .opcode else .zeroField := by
  simp only [← zeroField_eq_zero_iff]
  unfold decode at h
  split at h
  · next hzero =>
    rw [if_pos hzero]
    split at h
    · cases h
    · exact (Except.error.inj h).symm
  · next hzero =>
    rw [if_neg hzero]
    exact (Except.error.inj h).symm

/-! ## Instructions written as one number -/

theorem decodeTableWord_of_keep {nbits w : Nat} {i : Instr}
    (h : (tableWordPacket nbits w).keep i.operandsUsed = encode i) : decodeTableWord nbits w = some i := by
  simp only [decodeTableWord, decode_of_keep h]

theorem decodeTableWord_of_not_wellFormed {nbits w : Nat} (h : (tableWordPacket nbits w).wellFormed = false) :
    decodeTableWord nbits w = none := by
  obtain ⟨why, hwhy⟩ := exists_error_of_not_wellFormed h
  simp only [decodeTableWord, hwhy]

/-! ## What a step answers -/

/-- An operation that ends in `answer` gives a result word, determined or free. -/
theorem answer_result (s : State) (x : Option Word) : ∃ t, s.answer x = .next t ∧ ∃ r, t.response = .result r := by
  cases x with
  | some v => exact ⟨_, State.answer_some s v, v, State.respond_response s _⟩
  | none => exact ⟨_, State.answer_none s, _, State.respondFree_response s⟩

/-- Every operation but INIT and SEED gives a result word (R74). -/
theorem exec_result {i : Instr} (hinit : i ≠ .init) (hseed : ∀ a, i ≠ .seed a) (s : State) :
    ∃ t, exec i s = .next t ∧ ∃ r, t.response = .result r := by
  cases i with
  | init => exact absurd rfl hinit
  | seed a => exact absurd rfl (hseed a)
  | rmul a b => exact answer_result s (some (rmul a b))
  | rmla a b c => exact answer_result s (some (rmla a b c))
  | rmls a b c => exact answer_result s (some (rmls a b c))
  | sine a => exact answer_result s (sineResult s a)
  | window a => exact answer_result s (windowResult s a)
  | mtof a => exact answer_result s (mtofResult Config.satStd s a)
  | mtofx a => exact answer_result s (mtofResult Config.satExt s a)
  | log2 a => exact answer_result s (log2Result s a)
  | i2f a => exact answer_result s (some (i2f a))
  | f2i a => exact answer_result s (some (f2i a))
  | fl2f a => exact answer_result s (some (fl2fWord a))
  | rand => exact answer_result (s.setRng (lcgNext s.rng)) (some (lcgNext s.rng))

theorem step_of_idle {s : State} (hs : s.stream = []) : step s = .next s := by
  simp only [step, hs, State.idle_eq]

theorem step_of_reset {s : State} {rest : List Request} (hs : s.stream = .reset :: rest) :
    step s = .next (s.withStream rest).takeReset := by
  simp only [step, hs]

/-- A reserved packet is refused with the decoder's reason (R76, log 3). -/
theorem step_of_reserved {s : State} {p : Packet} {rest : List Request} {why : Reserved} (hs : s.stream = .command p :: rest)
    (hp : decode p = .error why) : step s = .refused (.reservedCommand why) := by
  simp only [step, hs, hp]

/-! ## The statements -/

/-- Settles O3, by `decode_encode` and `decode_eq_ok_iff`. -/
theorem decodeInvertsEncode : Obligations.DecodeInvertsEncode :=
  ⟨decode_encode, decode_eq_ok_iff⟩

/-- Settles O51: INIT and SEED end in `complete`, every other operation in `answer`. -/
theorem everyOperationResponds : Obligations.EveryOperationResponds := by
  intro i s
  by_cases hinit : i = .init
  · subst hinit
    exact ⟨_, exec_init s, .inl ⟨rfl, .inl rfl⟩⟩
  by_cases hseed : ∃ a, i = .seed a
  · obtain ⟨a, rfl⟩ := hseed
    exact ⟨_, exec_seed a s, .inl ⟨rfl, .inr ⟨a, rfl⟩⟩⟩
  · have hseed' := not_exists.mp hseed
    obtain ⟨t, ht, hresult⟩ := exec_result hinit hseed' s
    exact ⟨t, ht, .inr ⟨hresult, hinit, hseed'⟩⟩

/-- Settles O2: by `wellFormed_iff_exists_decode` the check decides whether a command is executed, which always answers, or
refused. -/
theorem onlyReservedCommandsStop : Obligations.OnlyReservedCommandsStop := by
  refine ⟨fun s => ⟨?_, fun hlegal => ?_⟩, fun s p rest hs hp => ?_⟩
  · rintro ⟨t, ht⟩ p rest hs
    obtain ⟨hs', -⟩ | ⟨rest', hs', -⟩ | ⟨p', rest', i, hs', hi, -⟩ := step_cases ht
    · cases hs.symm.trans hs'
    · cases hs.symm.trans hs'
    · cases hs.symm.trans hs'
      exact wellFormed_of_decode hi
  · match hs : s.stream with
    | [] => exact ⟨s, step_of_idle hs⟩
    | .reset :: rest => exact ⟨_, step_of_reset hs⟩
    | .command p :: rest =>
      obtain ⟨i, hi⟩ := (wellFormed_iff_exists_decode p).mp (hlegal p rest hs)
      obtain ⟨t, ht, -⟩ := everyOperationResponds i (s.withStream rest)
      exact ⟨t, (step_of_command hs hi).trans ht⟩
  · obtain ⟨why, hwhy⟩ := exists_error_of_not_wellFormed hp
    exact ⟨why, step_of_reserved hs hwhy⟩

/-- Settles O4: a row is a packet that keeps the words of its instruction; a packet that decodes has a `W0` of the list, so
any other is reserved, for the reason of `decode_error_reason`. -/
theorem opcodeMapDecodes : Obligations.OpcodeMapDecodes := by
  refine ⟨fun a b c => ?_, fun p hp => ?_⟩
  · exact ⟨decode_of_keep rfl, decode_of_keep rfl, decode_of_keep rfl, decode_of_keep rfl, decode_of_keep rfl,
      decode_of_keep rfl, decode_of_keep rfl, decode_of_keep rfl, decode_of_keep rfl, decode_of_keep rfl,
      decode_of_keep rfl, decode_of_keep rfl, decode_of_keep rfl, decode_of_keep rfl⟩
  · cases hdecode : decode p with
    | ok i => exact absurd (mem_commandWords_of_wellFormed (wellFormed_of_decode hdecode)) hp
    | error why => rw [decode_error_reason hdecode]

/-- Settles O6: by `decode_eq_ok_iff` both packets decode to one instruction. -/
theorem unusedOperandsHaveNoEffect : Obligations.UnusedOperandsHaveNoEffect := by
  intro s p q rest i hp hpq
  have hq : decode q = .ok i := (decode_eq_ok_iff q i).mpr (hpq.symm.trans (keep_of_decode hp))
  rw [step_of_command rfl hp, step_of_command rfl hq]
  rfl

/-- Settles O5: each packet, split into its words, keeps those of the instruction listed or fails the check. -/
theorem listedWordsDecode : Obligations.ListedWordsDecode :=
  ⟨decodeTableWord_of_keep (by decide), decodeTableWord_of_keep (by decide), decodeTableWord_of_keep (by decide),
    decodeTableWord_of_keep (by decide), decodeTableWord_of_not_wellFormed (by decide),
    decodeTableWord_of_not_wellFormed (by decide)⟩

end Sys2Proof.Proofs
end

section
/-! PROOFS of the statements about the rounding multiply (spec/41_rounding_multiply.md): the products of words, RMUL, RMLA and RMLS
over integers, and the blend. -/

namespace Sys2Proof.Proofs

open Sys2Proof Sys2Proof.Machine

/-! ## Products of words and their rounding -/

/-- A word times a factor that is not negative lies between that factor times the word's extremes. -/
theorem word_mul_bounds_of_nonneg (y : Word) {w : Int} (hw : 0 ≤ w) :
    -2 ^ 31 * w ≤ y.toInt * w ∧ y.toInt * w ≤ (2 ^ 31 - 1) * w := by
  obtain ⟨hlow, hhigh⟩ := word_toInt_bounds y
  exact ⟨mul_le_mul_of_nonneg_right (by omega) hw, mul_le_mul_of_nonneg_right (by omega) hw⟩

/-- The least product of two words is that of the least and the greatest (R101): of two factors of different signs the negative one
is at most `2^31` in size and the positive one at most `2^31 - 1`. -/
theorem word_mul_lower (a b : Word) : -2 ^ 62 + 2 ^ 31 ≤ a.toInt * b.toInt := by
  have hb := word_toInt_bounds b
  rcases le_total 0 b.toInt with hsign | hsign
  · obtain ⟨hlow, -⟩ := word_mul_bounds_of_nonneg a hsign
    omega
  · obtain ⟨-, hhigh⟩ := word_mul_bounds_of_nonneg a (neg_nonneg.mpr hsign)
    rw [mul_neg] at hhigh
    omega

/-- A product with a positive factor is at most the square of the greatest word (R104). -/
theorem word_mul_upper_of_pos (a : Word) {b : Word} (hb : 0 < b.toInt) :
    a.toInt * b.toInt ≤ (2 ^ 31 - 1) * (2 ^ 31 - 1) := by
  obtain ⟨-, hhigh⟩ := word_mul_bounds_of_nonneg a hb.le
  have hb' := word_toInt_bounds b
  omega

/-- Rounding to the high word commutes with the change of sign, but for a tie, which goes upward on both sides (R104). -/
theorem round_neg (x : Int) :
    (-x + 2 ^ 31) / 2 ^ 32 = -((x + 2 ^ 31) / 2 ^ 32) + if x % 2 ^ 32 = 2 ^ 31 then 1 else 0 := by
  split <;> omega

/-- The high word of an accumulator joined to the intermediate is the accumulator plus the high word (R102, R103). -/
theorem hi32r_add_high (c x : Int) : hi32r (c * 2 ^ 32 + x) = trunc32 (c + (x + 2 ^ 31) / 2 ^ 32) := by
  rw [hi32r, add_assoc, Int.mul_comm, Int.mul_add_ediv_left _ _ (by decide)]

/-- An accumulator to which nothing is added comes back as it is (R102, R103). -/
theorem hi32r_high (c : Word) : hi32r (c.toInt * 2 ^ 32) = c := by
  have hround : ((0 : Int) + 2 ^ 31) / 2 ^ 32 = 0 := by decide
  have h := hi32r_add_high c.toInt 0
  rwa [hround, add_zero, add_zero, trunc32, BitVec.ofInt_toInt] at h

theorem word_zero_toInt : (0 : Word).toInt = 0 := rfl

theorem word_mul_zero (a : Word) : a.toInt * (0 : Word).toInt = 0 := mul_zero a.toInt
theorem word_zero_mul (b : Word) : (0 : Word).toInt * b.toInt = 0 := zero_mul b.toInt

/-! ## RMUL -/

/-- The result of RMUL lies in `-2^30 + 1` to `2^30` (R101). -/
theorem rmul_toInt_bounds (a b : Word) : -2 ^ 30 + 1 ≤ (rmul a b).toInt ∧ (rmul a b).toInt ≤ 2 ^ 30 := by
  have hlow := word_mul_lower a b
  have hhigh := word_mul_bounds a b
  rw [rmul_toInt]
  omega

theorem rmul_comm (a b : Word) : rmul a b = rmul b a := by
  rw [rmul, rmul, mul_comm]

/-- A product of 0 gives 0 (R104). -/
theorem rmul_of_mul_eq_zero {a b : Word} (h : a.toInt * b.toInt = 0) : rmul a b = 0 := by
  rw [rmul, h]
  rfl

theorem rmul_zero (a : Word) : rmul a 0 = 0 := rmul_of_mul_eq_zero (word_mul_zero a)
theorem zero_rmul (b : Word) : rmul 0 b = 0 := rmul_of_mul_eq_zero (word_zero_mul b)

/-- A word is less than half the unit of the result, or the negative tie, which rounds up to 0 (R101). -/
theorem rmul_one (a : Word) : rmul a 1 = 0 := by
  have ha := word_toInt_bounds a
  have hone : (1 : Word).toInt = 1 := rfl
  have hzero : (rmul a 1).toInt = 0 := by
    rw [rmul_toInt, hone]
    omega
  exact BitVec.eq_of_toInt_eq hzero

/-- Only the least word has a negative as large as half the unit of the result (R101). -/
theorem rmul_neg_one (a : Word) : rmul a 0xFFFFFFFF = if a = 0x80000000 then 1 else 0 := by
  by_cases hmin : a = 0x80000000
  · subst hmin
    decide
  · have ha := word_toInt_bounds a
    have hne : a.toInt ≠ -2147483648 := fun h => hmin (BitVec.eq_of_toInt_eq h)
    have hneg : (0xFFFFFFFF : Word).toInt = -1 := rfl
    have hzero : (rmul a 0xFFFFFFFF).toInt = 0 := by
      rw [rmul_toInt, hneg]
      omega
    rw [if_neg hmin]
    exact BitVec.eq_of_toInt_eq hzero

/-! ## RMLA and RMLS -/

/-- `rmla_eq` with the rounded product written out (R102). -/
theorem rmla_eq_round (a b c : Word) : rmla a b c = trunc32 (c.toInt + (a.toInt * b.toInt + 2 ^ 31) / 2 ^ 32) :=
  hi32r_add_high c.toInt (a.toInt * b.toInt)

theorem rmla_zero_acc (a b : Word) : rmla a b 0 = rmul a b := by
  rw [rmla_eq, word_zero_toInt, zero_add, trunc32, BitVec.ofInt_toInt]

/-- A product of 0 leaves the accumulator as it is (R102). -/
theorem rmla_of_mul_eq_zero {a b : Word} (h : a.toInt * b.toInt = 0) (c : Word) : rmla a b c = c := by
  rw [rmla, h, add_zero, hi32r_high]

/-- RMLS adds the rounded negative of the product (R103). -/
theorem rmls_eq_round (a b c : Word) : rmls a b c = trunc32 (c.toInt + (-(a.toInt * b.toInt) + 2 ^ 31) / 2 ^ 32) := by
  rw [rmls, sub_eq_add_neg, hi32r_add_high]

/-- RMLS is the accumulator minus RMUL, and one more at a tie (R103). -/
theorem rmls_eq (a b c : Word) :
    rmls a b c = trunc32 (c.toInt - (rmul a b).toInt + if a.toInt * b.toInt % 2 ^ 32 = 2 ^ 31 then 1 else 0) := by
  rw [rmls_eq_round, round_neg, rmul_toInt, sub_eq_add_neg, add_assoc]
  rfl

/-- A product of 0 leaves the accumulator as it is (R103). -/
theorem rmls_of_mul_eq_zero {a b : Word} (h : a.toInt * b.toInt = 0) (c : Word) : rmls a b c = c := by
  rw [rmls, h, sub_zero, hi32r_high]

/-! ## Signs -/

/-- RMUL is symmetric about zero but for ties and the least word, whose negative is no word (R104). -/
theorem neg_rmul {a b : Word} (ha : a ≠ 0x80000000) (htie : a.toInt * b.toInt % 2 ^ 32 ≠ 2 ^ 31) :
    rmul (-a) b = -rmul a b := by
  have hresult : rmul a b ≠ 0x80000000 := fun h => by
    have hbounds := rmul_toInt_bounds a b
    rw [h] at hbounds
    exact absurd hbounds (by decide)
  have hround := round_neg (a.toInt * b.toInt)
  rw [if_neg htie, add_zero] at hround
  apply BitVec.eq_of_toInt_eq
  rw [BitVec.toInt_neg_of_ne_intMin hresult, rmul_toInt, rmul_toInt, BitVec.toInt_neg_of_ne_intMin ha, neg_mul]
  exact hround

/-- RMUL over the negative of the product, which is the size of a negative product: rounded, and rounded down at a tie, with the
sign put back (R104). -/
theorem rmul_toInt_eq_neg (a b : Word) :
    (rmul a b).toInt =
      if a.toInt * b.toInt % 2 ^ 32 = 2 ^ 31 then -(-(a.toInt * b.toInt) / 2 ^ 32)
      else -((-(a.toInt * b.toInt) + 2 ^ 31) / 2 ^ 32) := by
  rw [rmul_toInt]
  split <;> omega

/-! ## The blend's sum -/

/-- A word times a weight, rounded, is at most half the weight in size: the greatest word is less than `2^31`, and the least one
at worst gives a tie, which rounds up (R106). -/
theorem round_weighted_bounds (y : Word) {w : Int} (h0 : 0 ≤ w) (hmax : w ≤ 2 ^ 31 - 1) :
    -(w / 2) ≤ (y.toInt * w + 2 ^ 31) / 2 ^ 32 ∧ (y.toInt * w + 2 ^ 31) / 2 ^ 32 ≤ w / 2 := by
  have hy := word_mul_bounds_of_nonneg y h0
  omega

/-- The two rounded products of a blend add up to less than `2^30` in size: the weights add up to `2^31 - 1`, so one of them is odd
and their halves add up to `2^30 - 1` (R107, R108). -/
theorem round_weighted_add_bounds (y1 y2 : Word) {w : Int} (h0 : 0 ≤ w) (hmax : w ≤ 2 ^ 31 - 1) :
    -2 ^ 30 + 1 ≤ (y1.toInt * (2 ^ 31 - 1 - w) + 2 ^ 31) / 2 ^ 32 + (y2.toInt * w + 2 ^ 31) / 2 ^ 32 ∧
    (y1.toInt * (2 ^ 31 - 1 - w) + 2 ^ 31) / 2 ^ 32 + (y2.toInt * w + 2 ^ 31) / 2 ^ 32 ≤ 2 ^ 30 - 1 := by
  have h1 := round_weighted_bounds y1 (w := 2 ^ 31 - 1 - w) (by omega) (by omega)
  have h2 := round_weighted_bounds y2 h0 hmax
  have hhalves : (2 ^ 31 - 1 - w) / 2 + w / 2 = 2 ^ 30 - 1 := by omega
  omega

/-- The weighted sum of two samples lies between `2^31 - 1` times the extremes of a word (R107). -/
theorem weighted_add_bounds (y1 y2 : Word) {w : Int} (h0 : 0 ≤ w) (hmax : w ≤ 2 ^ 31 - 1) :
    -2 ^ 31 * (2 ^ 31 - 1) ≤ y1.toInt * (2 ^ 31 - 1 - w) + y2.toInt * w ∧
    y1.toInt * (2 ^ 31 - 1 - w) + y2.toInt * w ≤ (2 ^ 31 - 1) * (2 ^ 31 - 1) := by
  have h1 := word_mul_bounds_of_nonneg y1 (w := 2 ^ 31 - 1 - w) (by omega)
  have h2 := word_mul_bounds_of_nonneg y2 h0
  omega

/-- A weight in range is read as it is, signed or not (R106). -/
theorem weight_toInt {pf : Word} (h : pf.toNat ≤ 0x7FFFFFFF) : pf.toInt = pf.toNat :=
  BitVec.toInt_eq_toNat_of_lt (by omega)

/-- The complement of a weight in range is the rest to `MAXW` (R106). -/
theorem maxw_sub_toInt {pf : Word} (h : pf.toNat ≤ 0x7FFFFFFF) : (Config.maxw - pf).toInt = 2 ^ 31 - 1 - pf.toNat := by
  have hsub : (Config.maxw - pf).toNat = 0x7FFFFFFF - pf.toNat := BitVec.toNat_sub_of_le h
  rw [weight_toInt (by omega), hsub]
  omega

/-- The sum `r2` is the two rounded products, added without a wrap (R107). -/
theorem blendSum_toInt (y1 y2 : Word) {pf : Word} (h : pf.toNat ≤ 0x7FFFFFFF) :
    (blendSum y1 y2 pf).toInt =
      (y1.toInt * (2 ^ 31 - 1 - pf.toNat) + 2 ^ 31) / 2 ^ 32 + (y2.toInt * pf.toNat + 2 ^ 31) / 2 ^ 32 := by
  have hsum := round_weighted_add_bounds y1 y2 (w := pf.toNat) (by omega) (by omega)
  have h1 := rmul_toInt y1 (Config.maxw - pf)
  have h2 := rmul_toInt y2 pf
  rw [maxw_sub_toInt h] at h1
  rw [weight_toInt h] at h2
  rw [blendSum, rmla_eq, trunc32_toInt (by omega) (by omega)]
  omega

/-- For every weight in range and all samples `r2` is less than `2^30` in size (R108). -/
theorem blendSum_bounds (y1 y2 : Word) {pf : Word} (h : pf.toNat ≤ 0x7FFFFFFF) :
    -2 ^ 30 + 1 ≤ (blendSum y1 y2 pf).toInt ∧ (blendSum y1 y2 pf).toInt ≤ 2 ^ 30 - 1 := by
  rw [blendSum_toInt y1 y2 h]
  exact round_weighted_add_bounds y1 y2 (by omega) (by omega)

/-- Each of the two roundings moves `r2` by at most a half, and down by less than a half (R107). -/
theorem blendSum_near_weighted (y1 y2 : Word) {pf : Word} (h : pf.toNat ≤ 0x7FFFFFFF) :
    y1.toInt * (2 ^ 31 - 1 - pf.toNat) + y2.toInt * pf.toNat - 2 ^ 32 < (blendSum y1 y2 pf).toInt * 2 ^ 32 ∧
    (blendSum y1 y2 pf).toInt * 2 ^ 32 ≤ y1.toInt * (2 ^ 31 - 1 - pf.toNat) + y2.toInt * pf.toNat + 2 ^ 32 := by
  rw [blendSum_toInt y1 y2 h]
  omega

/-- Twice `r2` is less than 3 from the ideal interpolation, here with both multiplied by `MAXW` (R107): the two roundings account for
at most 2 and `MAXW` in place of `2^31` for at most 1, and the extremes are not reached together. -/
theorem blendSum_near_ideal (y1 y2 : Word) {pf : Word} (h : pf.toNat ≤ 0x7FFFFFFF) :
    |2 * (blendSum y1 y2 pf).toInt * (2 ^ 31 - 1) -
        (y1.toInt * (2 ^ 31 - 1) + (y2.toInt - y1.toInt) * pf.toNat)| < 3 * (2 ^ 31 - 1) := by
  have hideal : y1.toInt * (2 ^ 31 - 1) + (y2.toInt - y1.toInt) * pf.toNat =
      y1.toInt * (2 ^ 31 - 1 - pf.toNat) + y2.toInt * pf.toNat := by ring
  have hnear := blendSum_near_weighted y1 y2 h
  have hweighted := weighted_add_bounds y1 y2 (w := pf.toNat) (by omega) (by omega)
  rw [hideal, abs_lt]
  omega

/-! ## The blend's final shift -/

/-- The final shift doubles `r2` modulo `2^32` (R106). -/
theorem blend_eq (y1 y2 pf : Word) : blend y1 y2 pf = trunc32 (2 * (blendSum y1 y2 pf).toInt) := by
  rw [trunc32, BitVec.ofInt_mul, BitVec.ofInt_toInt, BitVec.mul_comm]
  exact BitVec.shiftLeft_eq_mul_twoPow (blendSum y1 y2 pf) 1

/-- The result of a blend is even (R107). -/
theorem blend_even (y1 y2 pf : Word) : (blend y1 y2 pf).toNat % 2 = 0 := by
  rw [blend, lsl32, BitVec.toNat_shiftLeft, Nat.shiftLeft_eq]
  omega

/-- The shift keeps every bit exactly when `r2` is in half range (R108). -/
theorem blend_toInt_iff (y1 y2 pf : Word) :
    (blend y1 y2 pf).toInt = 2 * (blendSum y1 y2 pf).toInt ↔
      -2 ^ 30 ≤ (blendSum y1 y2 pf).toInt ∧ (blendSum y1 y2 pf).toInt ≤ 2 ^ 30 - 1 := by
  constructor
  · intro hdouble
    have hresult := word_toInt_bounds (blend y1 y2 pf)
    omega
  · intro ⟨hlow, hhigh⟩
    rw [blend_eq, trunc32_toInt (by omega) (by omega)]

/-- With a weight in range the shift keeps every bit, whatever the samples are (R108). -/
theorem blend_toInt (y1 y2 : Word) {pf : Word} (h : pf.toNat ≤ 0x7FFFFFFF) :
    (blend y1 y2 pf).toInt = 2 * (blendSum y1 y2 pf).toInt := by
  have hsum := blendSum_bounds y1 y2 h
  exact (blend_toInt_iff y1 y2 pf).mpr (by omega)

/-- At weight 0 a sample comes back rounded to an even number toward zero (R107), but for `-2^31` (log 24). -/
theorem blend_zero_toInt {y1 : Word} (y2 : Word) (hy : y1 ≠ 0x80000000) :
    (blend y1 y2 0).toInt =
      if y1.toInt % 2 = 0 then y1.toInt else if 0 < y1.toInt then y1.toInt - 1 else y1.toInt + 1 := by
  have hbounds := word_toInt_bounds y1
  have hne : y1.toInt ≠ -2147483648 := fun h => hy (BitVec.eq_of_toInt_eq h)
  have hzero : ((0 : Word).toNat : Int) = 0 := rfl
  have hsum := blendSum_toInt y1 y2 (pf := 0) (by decide)
  rw [hzero, mul_zero, sub_zero] at hsum
  rw [blend_toInt y1 y2 (by decide)]
  split_ifs <;> omega

/-! ## The weights of the operations -/

theorem sineWeight_le (a : Word) : (sineWeight a).toNat ≤ 0x7FFFFFFF := by
  rw [sineWeight_toNat]
  omega

theorem windowWeight_le (a : Word) : (windowWeight a).toNat ≤ 0x7FFFFFFF := by
  rw [windowWeight_toNat]
  omega

theorem pitchWeight_le (a : Word) : (pitchWeight a).toNat ≤ 0x7FFFFFFF := by
  rw [pitchWeight_toNat]
  omega

/-! ## The statements -/

/-- Settles O9, by `rmul_toInt` and one lemma for each corner case of R101; the examples are evaluated. -/
theorem rmulRoundsProduct : Obligations.RmulRoundsProduct := by
  refine ⟨fun a b c => decode_of_keep rfl, fun s a b => exec_rmul a b s, fun a b => ?_, by decide, by decide, by decide,
    by decide, by decide⟩
  obtain ⟨-, hupper⟩ := word_mul_bounds a b
  obtain ⟨hlow, hhigh⟩ := rmul_toInt_bounds a b
  have hround := rmul_toInt a b
  exact ⟨word_mul_lower a b, hupper, hround, hlow, hhigh, fun htie => by omega, rmul_comm a b, rmul_zero a, zero_rmul b,
    rmul_one a, rmul_neg_one a⟩

/-- Settles O10: the accumulator leaves the rounding by `hi32r_add_high`, so each clause speaks of RMUL. -/
theorem rmlaAccumulates : Obligations.RmlaAccumulates := by
  refine ⟨fun a b c => decode_of_keep rfl, fun s a b c => exec_rmla a b c s, fun a b c => ?_, by decide, by decide⟩
  have hacc := word_toInt_bounds c
  have hmul := rmul_toInt_bounds a b
  exact ⟨rmla_eq_round a b c, rmla_eq a b c, by omega, by omega, rmla_zero_acc a b, rmla_of_mul_eq_zero (word_mul_zero a) c,
    rmla_of_mul_eq_zero (word_zero_mul b) c⟩

/-- Settles O11: the accumulator leaves the rounding by `hi32r_add_high`, and `round_neg` compares the rounded negative product with
RMUL. -/
theorem rmlsSubtracts : Obligations.RmlsSubtracts :=
  ⟨fun a b c => decode_of_keep rfl, fun s a b c => exec_rmls a b c s,
    fun a b c => ⟨rmls_eq_round a b c, rmls_eq a b c, rmls_of_mul_eq_zero (word_mul_zero a) c,
      rmls_of_mul_eq_zero (word_zero_mul b) c⟩,
    by decide, by decide, by decide, by decide, by decide⟩

/-- Settles O12: the ranges are those of the product by the signs of its factors, and the symmetry is `neg_rmul`. -/
theorem multiplySignTable : Obligations.MultiplySignTable := by
  intro a b
  have hround := rmul_toInt a b
  obtain ⟨hlow, hhigh⟩ := rmul_toInt_bounds a b
  refine ⟨fun ha hb => ?_, fun ha hb => ?_, fun hneg => ?_, rmul_of_mul_eq_zero, neg_rmul⟩
  · have hpos := mul_pos ha hb
    have hupper := word_mul_upper_of_pos a hb
    omega
  · have hpos := mul_pos_of_neg_of_neg ha hb
    omega
  · exact ⟨by omega, by omega, rmul_toInt_eq_neg a b⟩

/-- Settles O13, by one lemma for each clause; the first is `blend_eq` with `blendSum_toInt`. -/
theorem blendWithinBounds : Obligations.BlendWithinBounds := by
  intro y1 y2 pf h
  obtain ⟨hlow, hhigh⟩ := blendSum_near_weighted y1 y2 h
  refine ⟨?_, blendSum_toInt y1 y2 h, hlow, hhigh, blend_even y1 y2 pf, blendSum_near_ideal y1 y2 h, blend_zero_toInt y2⟩
  rw [blend_eq, blendSum_toInt y1 y2 h]
  rfl

/-- Settles O14. By `blendSum_bounds` no weight in range loses a bit, so the last clause needs nothing of the operations' weights but
their range. -/
theorem blendShiftKeepsEveryBit : Obligations.BlendShiftKeepsEveryBit := by
  refine ⟨blend_toInt_iff, fun y1 y2 pf h => ?_, fun y1 y2 pf h _ _ => ?_, fun y1 y2 a => ?_⟩
  · obtain ⟨hlow, -⟩ := blendSum_bounds y1 y2 h
    omega
  · obtain ⟨-, hhigh⟩ := blendSum_bounds y1 y2 h
    exact hhigh
  · exact ⟨blend_toInt y1 y2 (sineWeight_le a), blend_toInt y1 y2 (windowWeight_le a), blend_toInt y1 y2 (pitchWeight_le a)⟩

end Sys2Proof.Proofs
end

section
/-! PROOFS of the statements about INIT and the reference tables (spec/42_table_init.md): loading the tables, and the integer tests
that decide the real formulas of R126 and R128. -/

namespace Sys2Proof.Proofs

open Sys2Proof Sys2Proof.Machine

/-! ## INIT -/

/-- Loading tables that are loaded "writes the same values again" (R121). -/
theorem loadTables_of_loaded {s : State} (htv : s.tv = true) (hs : s.TablesLoaded) : s.loadTables = s := by
  obtain ⟨hsinet, hsine2t, hwindowt, hpitcht, hexpt, hlogt⟩ := hs htv
  rw [State.loadTables, ← hsinet, ← hsine2t, ← hwindowt, ← hpitcht, ← hexpt, ← hlogt, ← htv]

theorem loadTables_setRng (s : State) (g : Word) : (s.setRng g).loadTables = s.loadTables.setRng g := rfl

/-- INIT commutes with a write of the generator word (R122). -/
theorem exec_init_setRng {s t : State} (g : Word) (h : exec .init s = .next t) :
    exec .init (s.setRng g) = .next (t.setRng g) := by
  obtain rfl := State.complete_cases h
  rw [exec_init, loadTables_setRng]
  rfl

/-! ## A test of every element of a table -/

/-- What a walk along a table with its indices has tested holds of every element. -/
theorem getElem_of_forall_zipIdx {α : Type} {n : Nat} {P : α → Nat → Prop} {v : Vector α n}
    (h : ∀ p ∈ v.toList.zipIdx, P p.1 p.2) (i : Fin n) : P v[i.val] i.val := by
  refine h (v[i.val], i.val) (List.mk_mem_zipIdx_iff_getElem?.mpr ?_)
  simp

/-! ## The reference pitch table

Twelve semitones are an octave, so 75 times the formula of R126 has an integer as its twelfth power, and an entry is compared with
the formula through twelfth powers. -/

/-- The formula of R126 before the integer part and the clamp. -/
noncomputable def pitchFormula (i : Nat) : ℝ := (2 : ℝ) ^ 32 * 440 * (2 : ℝ) ^ (((i : ℝ) - 133) / 12) / 48000

/-- The twelfth power of 75 times the formula of R126. -/
def pitchRadicand (i : Nat) : Nat := 11 ^ 12 * 2 ^ (203 + i)

theorem pitchFormula_nonneg (i : Nat) : 0 ≤ pitchFormula i := by
  unfold pitchFormula
  positivity

/-- Twelve semitones are an octave. -/
theorem semitone_pow_twelve (i : Nat) : ((2 : ℝ) ^ (((i : ℝ) - 133) / 12)) ^ 12 * 2 ^ 133 = 2 ^ i := by
  have hmul : ((i : ℝ) - 133) / 12 * (12 : ℕ) = (i : ℝ) - (133 : ℕ) := by push_cast; ring
  rw [← Real.rpow_mul_natCast two_pos.le, hmul, Real.rpow_sub two_pos, Real.rpow_natCast, Real.rpow_natCast,
    div_mul_cancel₀ _ (by positivity)]

theorem pitchFormula_pow_twelve (i : Nat) : (75 * pitchFormula i) ^ 12 = pitchRadicand i := by
  have hscale : 75 * pitchFormula i = 11 * 2 ^ 28 * (2 : ℝ) ^ (((i : ℝ) - 133) / 12) := by
    unfold pitchFormula
    ring
  have hoctave := semitone_pow_twelve i
  rw [hscale, mul_pow, pitchRadicand, pow_add]
  push_cast
  linear_combination (11 ^ 12 * 2 ^ 203 : ℝ) * hoctave

/-- A natural number against the formula of R126, decided over naturals. -/
theorem natCast_le_pitchFormula_iff (e i : Nat) : (e : ℝ) ≤ pitchFormula i ↔ (75 * e) ^ 12 ≤ pitchRadicand i := by
  have hnonneg := pitchFormula_nonneg i
  calc (e : ℝ) ≤ pitchFormula i
      ↔ 75 * (e : ℝ) ≤ 75 * pitchFormula i := (mul_le_mul_iff_right₀ (by norm_num)).symm
    _ ↔ (75 * (e : ℝ)) ^ 12 ≤ (75 * pitchFormula i) ^ 12 :=
      (pow_le_pow_iff_left₀ (by positivity) (by positivity) (by norm_num)).symm
    _ ↔ (75 * e) ^ 12 ≤ pitchRadicand i := by
      rw [pitchFormula_pow_twelve]
      norm_cast

/-- The integer test of an entry `e` at index `i` of the reference pitch table (R126). -/
abbrev IsPitchEntry (e i : Nat) : Prop :=
  e ≤ 0x7FFFFFFF ∧ (75 * e) ^ 12 ≤ pitchRadicand i ∧ (e = 0x7FFFFFFF ∨ pitchRadicand i < (75 * (e + 1)) ^ 12)

/-- An entry that passes the test is the formula's integer part, clamped: it is at most the formula, and either it is the clamp
value or the next integer is beyond the formula. -/
theorem IsPitchEntry.eq_min_floor {e i : Nat} (h : IsPitchEntry e i) : (e : Int) = min ⌊pitchFormula i⌋ 0x7FFFFFFF := by
  obtain ⟨hclamp, hle, hnext⟩ := h
  have hfloor : (e : Int) ≤ ⌊pitchFormula i⌋ := Int.le_floor.mpr (mod_cast (natCast_le_pitchFormula_iff e i).mpr hle)
  rcases hnext with hmax | hlt
  · omega
  · have hupper : pitchFormula i < (e + 1 : Nat) :=
      lt_of_not_ge fun hge => absurd ((natCast_le_pitchFormula_iff (e + 1) i).mp hge) (not_le.mpr hlt)
    have hfloor_lt : ⌊pitchFormula i⌋ < ((e + 1 : Nat) : Int) := Int.floor_lt.mpr (mod_cast hupper)
    omega

theorem reference_pitcht_walk : ∀ p ∈ Reference.config.tabPitcht.toList.zipIdx, IsPitchEntry p.1.toNat p.2 := by
  decide +kernel

theorem reference_pitcht_entry (i : Fin 257) : IsPitchEntry Reference.config.tabPitcht[i.val].toNat i.val :=
  getElem_of_forall_zipIdx (P := fun (e : Word) i => IsPitchEntry e.toNat i) reference_pitcht_walk i

/-! ## The reference log table

`k * log2(1 + m / 256)` is `log2((256 + m)^k) - 8 * k`, so its integer part is the position of the highest set bit of a power. -/

theorem mul_logb_mantissa (k m : Nat) :
    (k : ℝ) * Real.logb 2 (1 + (m : ℝ) / 256) = Real.logb 2 ((256 + m) ^ k : Nat) - (8 * k : Nat) := by
  have hquot : 1 + (m : ℝ) / 256 = ((256 + m : Nat) : ℝ) / 2 ^ 8 := by
    push_cast
    ring
  have hmant : ((256 + m : Nat) : ℝ) ≠ 0 := by positivity
  have hoctave : Real.logb 2 ((2 : ℝ) ^ 8) = 8 := by
    rw [Real.logb_pow, Real.logb_self_eq_one one_lt_two]
    norm_num
  rw [hquot, Real.logb_div hmant (by positivity), hoctave, Nat.cast_pow, Real.logb_pow]
  push_cast
  ring

/-- The integer test of an entry `e` at index `m` of a log table scaled by `k` (R128). -/
abbrev IsLogEntry (k e m : Nat) : Prop := 2 ^ (e + 8 * k) ≤ (256 + m) ^ k ∧ (256 + m) ^ k < 2 ^ (e + 8 * k + 1)

/-- An entry that passes the test is the formula's integer part. -/
theorem IsLogEntry.eq_floor {k e m : Nat} (h : IsLogEntry k e m) :
    (e : Int) = ⌊(k : ℝ) * Real.logb 2 (1 + (m : ℝ) / 256)⌋ := by
  obtain ⟨hle, hlt⟩ := h
  have hlog : Nat.log 2 ((256 + m) ^ k) = e + 8 * k := Nat.log_eq_of_pow_le_of_lt_pow hle hlt
  have hfloor : ⌊Real.logb 2 ((256 + m) ^ k : Nat)⌋ = (e + 8 * k : Nat) := by
    rw [← hlog, ← Int.log_natCast (R := ℝ)]
    exact mod_cast Real.floor_logb_natCast (b := 2) (Nat.cast_nonneg _)
  rw [mul_logb_mantissa, Int.floor_sub_natCast, hfloor]
  omega

theorem reference_logt_walk : ∀ p ∈ Reference.config.tabLogt.toList.zipIdx, IsLogEntry 65536 p.1.toNat p.2 := by
  decide +kernel

theorem reference_logt_entry (m : Fin 256) : IsLogEntry 65536 Reference.config.tabLogt[m.val].toNat m.val :=
  getElem_of_forall_zipIdx (P := fun (e : Half) m => IsLogEntry 65536 e.toNat m) reference_logt_walk m

/-! ## The statements -/

/-- Settles O15: `exec_init` is the whole next state, and loaded tables are loaded again by `loadTables_of_loaded`. -/
theorem initLoadsTables : Obligations.InitLoadsTables := by
  refine ⟨fun a b c => decode_of_keep rfl, exec_init, fun s htv hs => ?_, _, exec_init State.reset, rfl,
    Reference.config_guardSine2t.symm, rfl⟩
  rw [exec_init, loadTables_of_loaded htv hs]
  rfl

/-- Settles O16: loading the tables leaves `RNG`, so RAND steps the same word, and INIT commutes with a write of `RNG`. -/
theorem initLeavesGenerator : Obligations.InitLeavesGenerator := fun s =>
  ⟨⟨_, _, _, exec_init s, exec_rand _, exec_rand s, rfl, rfl, rfl⟩, fun g _ h => exec_init_setRng g h⟩

/-- Settles O35: every entry passes the test of twelfth powers. -/
theorem referencePitchFormula : Obligations.ReferencePitchFormula := fun i => (reference_pitcht_entry i).eq_min_floor

/-- Settles O38: every entry passes the test of the highest set bit, at the scale 65536. -/
theorem referenceLogFormula : Obligations.ReferenceLogFormula := by
  intro m
  have hfloor := (reference_logt_entry m).eq_floor
  rwa [Nat.cast_ofNat] at hfloor

/-- Settles O19: the reference arrays meet every invariant, and reset clears `TV`. -/
theorem resetIsConsistent : Obligations.ResetIsConsistent :=
  ⟨Reference.config_valid, tablesLoaded_of_not_tv rfl⟩

end Sys2Proof.Proofs
end

section
/-! PROOFS of the statements about the interpolators (spec/43_interpolators.md): SINE and WINDOW while `TV = 1`, and what they
answer at the ends of the phase. -/

namespace Sys2Proof.Proofs

open Sys2Proof Sys2Proof.Machine Sys2Proof.Certificates

/-! ## The blend as an interpolation of neighbouring samples -/

/-- The blend over the samples' integer values (R106): the first clause of O13. -/
theorem blend_eq_interpolated (y1 y2 : Word) {pf : Word} (h : pf.toNat ≤ 0x7FFFFFFF) :
    blend y1 y2 pf = interpolated y1.toInt y2.toInt pf.toNat := by
  obtain ⟨hblend, -⟩ := blendWithinBounds y1 y2 pf h
  exact hblend

/-- The interpolation at weight 0 of an even sample other than `-2^31` is the sample (R107). -/
theorem interpolated_zero_weight {y1 : Int} (y2 : Int) (heven : y1 % 2 = 0) (hlow : -2 ^ 31 < y1) (hhigh : y1 < 2 ^ 31) :
    interpolated y1 y2 0 = BitVec.ofInt 32 y1 := by
  have hsum : 2 * ((y1 * (2 ^ 31 - 1 - 0) + 2 ^ 31) / 2 ^ 32 + (y2 * 0 + 2 ^ 31) / 2 ^ 32) = y1 := by omega
  rw [interpolated, hsum]

/-- The blend is at most 2 units from the weighted sum of the samples, here multiplied by `2^31` (R107). -/
theorem blend_near_weighted (y1 y2 : Word) {pf : Word} (h : pf.toNat ≤ 0x7FFFFFFF) :
    |(blend y1 y2 pf).toInt * 2 ^ 31 - (y1.toInt * (2 ^ 31 - 1 - pf.toNat) + y2.toInt * pf.toNat)| ≤ 2 ^ 32 := by
  have hnear := blendSum_near_weighted y1 y2 h
  rw [blend_toInt y1 y2 h, abs_le]
  omega

/-- A blend toward a sample is within one table step and 4 units of the blend that starts at that sample: the weighted sums differ
by less than the step, and each of the two blends rounds by at most 2 (R107, R145). -/
theorem blend_near_next (y1 y2 y3 : Word) {pf : Word} (h : pf.toNat ≤ 0x7FFFFFFF) :
    |(blend y1 y2 pf).toInt - (blend y2 y3 0).toInt| ≤ |y1.toInt - y2.toInt| + 4 := by
  have hbefore := blend_near_weighted y1 y2 h
  have hat := blend_near_weighted y2 y3 (pf := 0) (by decide)
  have hzero : ((0 : Word).toNat : Int) = 0 := rfl
  have hsplit : y1.toInt * (2 ^ 31 - 1 - pf.toNat) + y2.toInt * pf.toNat =
      y2.toInt * (2 ^ 31 - 1) + (y1.toInt - y2.toInt) * (2 ^ 31 - 1 - pf.toNat) := by ring
  have hstep : |(y1.toInt - y2.toInt) * (2 ^ 31 - 1 - pf.toNat)| ≤ |y1.toInt - y2.toInt| * 2 ^ 31 := by
    rw [abs_mul]
    exact mul_le_mul_of_nonneg_left (abs_le.mpr (by omega)) (abs_nonneg _)
  rw [hzero, mul_zero, add_zero, sub_zero] at hat
  rw [hsplit] at hbefore
  rw [abs_le] at hbefore hat hstep ⊢
  omega

/-! ## SINE and WINDOW while `TV = 1` -/

/-- SINE blends the samples of the phase's interval `k` (R141). -/
theorem exec_sine_of_tv {s : State} (htv : s.tv = true) {a : Word} {k : Nat} (ha : a.toNat / 2 ^ 20 = k) (hk : k < 4096) :
    exec (.sine a) s = .next (s.respond (.result (blend s.sine2t[k] s.sine2t[k + 1] (sineWeight a)))) := by
  subst ha
  rw [exec_sine, sineResult_of_tv htv, State.answer_some]

/-- A widened element is `2^16` times the element (R57): 16 more bits hold the product. -/
theorem widenWindow_toInt (e : Half) : (widenWindow e).toInt = e.toInt * 2 ^ 16 := by
  have hlow := BitVec.le_toInt e
  have hhigh := BitVec.toInt_lt (x := e)
  have hmul : widenWindow e = trunc32 (e.toInt * 2 ^ 16) := by
    rw [trunc32, BitVec.ofInt_mul]
    exact BitVec.shiftLeft_eq_mul_twoPow (e.signExtend 32) 16
  rw [hmul, trunc32_toInt (by omega) (by omega)]

/-- WINDOW interpolates the widened samples of the phase's interval `k` with weight `w` (R142). -/
theorem exec_window_of_tv {s : State} (htv : s.tv = true) {a : Word} {k w : Nat} (ha : a.toNat / 2 ^ 22 = k)
    (hw : a.toNat % 2 ^ 22 * 2 ^ 9 = w) (hk : k < 1024) :
    exec (.window a) s =
      .next (s.respond (.result (interpolated (s.windowt[k].toInt * 2 ^ 16) (s.windowt[k + 1].toInt * 2 ^ 16) w))) := by
  subst ha hw
  rw [exec_window, windowResult_of_tv htv, State.answer_some, blend_eq_interpolated _ _ (windowWeight_le a),
    windowWeight_toNat, widenWindow_toInt, widenWindow_toInt]

/-! ## The guard samples -/

/-- While `TV = 1` the guard sample of `sine2t` is sample 0 (R124, R145). -/
theorem sine2t_guard {s : State} (hs : s.Consistent) (htv : s.tv = true) : s.sine2t[4096] = s.sine2t[0] := by
  obtain ⟨⟨-, hguard, -⟩, htables⟩ := hs
  obtain ⟨-, hsine2t, -⟩ := htables htv
  rw [hsine2t]
  exact hguard

/-- While `TV = 1` the guard sample of `windowt` is sample 0 (R125, R146). -/
theorem windowt_guard {s : State} (hs : s.Consistent) (htv : s.tv = true) : s.windowt[1024] = s.windowt[0] := by
  obtain ⟨⟨-, -, hguard, -⟩, htables⟩ := hs
  obtain ⟨-, -, hwindowt, -⟩ := htables htv
  rw [hwindowt]
  exact hguard

/-! ## The statements -/

/-- Settles O24: the phase selects an interval of the table, and the blend of its two samples is their interpolation. -/
theorem sineInterpolates : Obligations.SineInterpolates := by
  intro s a htv
  have hk := sineInterval_lt a
  refine ⟨_, _, Vector.getElem?_eq_getElem (by omega), Vector.getElem?_eq_getElem (by omega), ?_⟩
  rw [exec_sine_of_tv htv rfl hk, blend_eq_interpolated _ _ (sineWeight_le a), sineWeight_toNat]
  rfl

/-- Settles O25: as SINE, with the elements widened. -/
theorem windowInterpolates : Obligations.WindowInterpolates := by
  intro s a htv
  have hk := windowInterval_lt a
  exact ⟨_, _, Vector.getElem?_eq_getElem (by omega), Vector.getElem?_eq_getElem (by omega), exec_window_of_tv htv rfl rfl hk⟩

/-- Settles O26: the last interval ends in the guard sample, which is the sample at which phase 0 starts, so `blend_near_next`
compares the two. -/
theorem sineContinuousAtWrap : Obligations.SineContinuousAtWrap := by
  intro s hs htv
  have hlast := exec_sine_of_tv htv (a := 0xFFFFFFFF) (k := 4095) (by decide) (by decide)
  have hfirst := exec_sine_of_tv htv (a := 0) (k := 0) (by decide) (by decide)
  have hweight : sineWeight 0 = 0 := by decide
  rw [hweight] at hfirst
  refine ⟨_, _, hlast, hfirst, ?_⟩
  rw [sine2t_guard hs htv]
  exact blend_near_next _ _ _ (sineWeight_le _)

/-- Settles O27: at phase 0 the weight is 0 and a widened sample is even; in the last interval the second sample is the guard
sample. -/
theorem windowBoundary : Obligations.WindowBoundary := by
  intro s hs htv
  have hfirst := exec_window_of_tv htv (a := 0) (k := 0) (w := 0) (by decide) (by decide) (by decide)
  have hlast := exec_window_of_tv htv (a := 0xFFFFFFFF) (k := 1023) (w := 0x7FFFFE00) (by decide) (by decide) (by decide)
  refine ⟨fun hmin => ?_, ?_⟩
  · have hlow := BitVec.le_toInt s.windowt[0]
    have hhigh := BitVec.toInt_lt (x := s.windowt[0])
    have hne : s.windowt[0].toInt ≠ -32768 := fun h => hmin (BitVec.eq_of_toInt_eq h)
    rw [hfirst, Nat.cast_zero, interpolated_zero_weight _ (by omega) (by omega) (by omega)]
    rfl
  · rw [hlast, windowt_guard hs htv]
    rfl

end Sys2Proof.Proofs
end

section
/-! PROOFS of the statements about pitch conversion (spec/44_pitch_conversion.md): MTOF and MTOFX as one function of the clamped
pitch, and that function on a pitch table that does not decrease. -/

namespace Sys2Proof.Proofs

open Sys2Proof Sys2Proof.Machine Sys2Proof.Certificates

/-! ## The interpolation over integers -/

/-- The weighted sum that an interpolation rounds: its weights add up to `2^31 - 1` (R106). -/
def weightedSum (y1 y2 w : Int) : Int := y1 * (2 ^ 31 - 1 - w) + y2 * w

theorem weightedSum_eq (y1 y2 w : Int) : weightedSum y1 y2 w = y1 * (2 ^ 31 - 1) + (y2 - y1) * w := by
  unfold weightedSum
  ring

/-- Between two samples that do not decrease, the weighted sum rises with the weight. -/
theorem weightedSum_mono {y1 y2 w w' : Int} (hy : y1 ≤ y2) (hw : w ≤ w') : weightedSum y1 y2 w ≤ weightedSum y1 y2 w' := by
  rw [weightedSum_eq, weightedSum_eq]
  exact Int.add_le_add_left (mul_le_mul_of_nonneg_left hw (by omega)) _

/-- A weighted sum of two samples that do not decrease lies between their values at the two ends. -/
theorem weightedSum_bounds {y1 y2 w : Int} (hy : y1 ≤ y2) (h0 : 0 ≤ w) (hmax : w ≤ 2 ^ 31 - 1) :
    y1 * (2 ^ 31 - 1) ≤ weightedSum y1 y2 w ∧ weightedSum y1 y2 w ≤ y2 * (2 ^ 31 - 1) := by
  have hfirst := weightedSum_mono hy h0
  have hlast := weightedSum_mono hy hmax
  unfold weightedSum at *
  omega

/-- An interpolation of words does not wrap (R107). -/
theorem interpolated_toInt (y1 y2 : Word) {w : Int} (h0 : 0 ≤ w) (hmax : w ≤ 2 ^ 31 - 1) :
    (interpolated y1.toInt y2.toInt w).toInt =
      2 * ((y1.toInt * (2 ^ 31 - 1 - w) + 2 ^ 31) / 2 ^ 32 + (y2.toInt * w + 2 ^ 31) / 2 ^ 32) := by
  have hsum := round_weighted_add_bounds y1 y2 h0 hmax
  exact trunc32_toInt (by omega) (by omega)

/-- The two roundings of an interpolation move it by at most 2 units, and down by less than 2 (R107). -/
theorem interpolated_near_weightedSum (y1 y2 : Word) {w : Int} (h0 : 0 ≤ w) (hmax : w ≤ 2 ^ 31 - 1) :
    weightedSum y1.toInt y2.toInt w - 2 ^ 32 < (interpolated y1.toInt y2.toInt w).toInt * 2 ^ 31 ∧
    (interpolated y1.toInt y2.toInt w).toInt * 2 ^ 31 ≤ weightedSum y1.toInt y2.toInt w + 2 ^ 32 := by
  rw [interpolated_toInt y1 y2 h0 hmax, weightedSum]
  omega

/-- Interpolations of weighted sums in order are in order but for 2 units: the roundings account for less than 4, and
interpolations are even (R167). -/
theorem interpolated_le_of_weightedSum_le {y1 y2 z1 z2 : Word} {v w : Int} (hv : 0 ≤ v ∧ v ≤ 2 ^ 31 - 1)
    (hw : 0 ≤ w ∧ w ≤ 2 ^ 31 - 1) (hle : weightedSum y1.toInt y2.toInt v ≤ weightedSum z1.toInt z2.toInt w) :
    (interpolated y1.toInt y2.toInt v).toInt - 2 ≤ (interpolated z1.toInt z2.toInt w).toInt := by
  have hfirst := interpolated_toInt y1 y2 hv.1 hv.2
  have hsecond := interpolated_toInt z1 z2 hw.1 hw.2
  have hnear := interpolated_near_weightedSum y1 y2 hv.1 hv.2
  have hnear' := interpolated_near_weightedSum z1 z2 hw.1 hw.2
  omega

/-- An interpolation of samples that are not negative is not negative (R164). -/
theorem interpolated_nonneg {y1 y2 : Word} {w : Int} (hy1 : 0 ≤ y1.toInt) (hy2 : 0 ≤ y2.toInt) (h0 : 0 ≤ w)
    (hmax : w ≤ 2 ^ 31 - 1) : 0 ≤ (interpolated y1.toInt y2.toInt w).toInt := by
  have h1 := mul_nonneg hy1 (b := 2 ^ 31 - 1 - w) (by omega)
  have h2 := mul_nonneg hy2 h0
  rw [interpolated_toInt y1 y2 h0 hmax]
  omega

/-- An interpolation between samples that are not negative and do not decrease leaves their range by at most 2 units
(R107, R169). -/
theorem interpolated_bounds {y1 y2 : Word} {w : Int} (hy1 : 0 ≤ y1.toInt) (hy : y1.toInt ≤ y2.toInt) (h0 : 0 ≤ w)
    (hmax : w ≤ 2 ^ 31 - 1) :
    y1.toInt - 2 ≤ (interpolated y1.toInt y2.toInt w).toInt ∧ (interpolated y1.toInt y2.toInt w).toInt ≤ y2.toInt + 2 := by
  have hsum := weightedSum_bounds hy h0 hmax
  have hnear := interpolated_near_weightedSum y1 y2 h0 hmax
  have hword := word_toInt_bounds y1
  omega

/-! ## The frequency of a pitch -/

/-- The frequency of the pitch `p` by the pitch table `t` (R163, R166): what both variants answer for a clamped pitch, by
`mtofResult_of_tv`. -/
def pitchFrequency (t : Vector Word 257) (p : Int) : Word :=
  interpolated t[(128 + p / 2 ^ 21).toNat]!.toInt t[(128 + p / 2 ^ 21).toNat + 1]!.toInt (p % 2 ^ 21 * 2 ^ 10)

/-- The frequency over the interval `k` of the pitch. -/
theorem pitchFrequency_eq (t : Vector Word 257) {p : Int} {k : Nat} (hp : 128 + p / 2 ^ 21 = k) (hk : k < 256) :
    pitchFrequency t p = interpolated t[k].toInt t[k + 1].toInt (p % 2 ^ 21 * 2 ^ 10) := by
  rw [pitchFrequency, hp, Int.toNat_natCast, getElem!_pos t k (by omega), getElem!_pos t (k + 1) (by omega)]

/-- A pitch of the extended range lies in one of the 256 intervals of the table (R165). -/
theorem pitch_interval {p : Int} (hlow : -2 ^ 28 ≤ p) (hhigh : p ≤ 2 ^ 28 - 1) :
    ∃ k : Nat, 128 + p / 2 ^ 21 = k ∧ k < 256 :=
  ⟨(128 + p / 2 ^ 21).toNat, by omega, by omega⟩

/-- The weight of a pitch is a weight of the blend (R163). -/
theorem pitch_weight_bounds (p : Int) : 0 ≤ p % 2 ^ 21 * 2 ^ 10 ∧ p % 2 ^ 21 * 2 ^ 10 ≤ 2 ^ 31 - 1 := by
  omega

/-- On the extended range both entries exist, and the frequency is their interpolation (R165, R166). -/
theorem pitchFrequency_entries (t : Vector Word 257) {p : Int} (hlow : -2 ^ 28 ≤ p) (hhigh : p ≤ 2 ^ 28 - 1) :
    ∃ y1 y2 : Word, t[(128 + p / 2 ^ 21).toNat]? = some y1 ∧ t[(128 + p / 2 ^ 21).toNat + 1]? = some y2 ∧
      pitchFrequency t p = interpolated y1.toInt y2.toInt (p % 2 ^ 21 * 2 ^ 10) := by
  obtain ⟨k, hp, hk⟩ := pitch_interval hlow hhigh
  rw [pitchFrequency_eq t hp hk, hp, Int.toNat_natCast]
  exact ⟨_, _, Vector.getElem?_eq_getElem (by omega), Vector.getElem?_eq_getElem (by omega), rfl⟩

/-! ## MTOF and MTOFX while `TV = 1` -/

/-- The model's weight over the pitch as an integer (R163). -/
theorem pitchWeight_eq (p : Word) : ((pitchWeight p).toNat : Int) = p.toInt % 2 ^ 21 * 2 ^ 10 := by
  rw [pitchWeight_toNat, Nat.cast_mul, word_toNat_mod]
  rfl

/-- The result for a pitch of the extended range is its frequency (R163). -/
theorem pitchResult_eq_frequency {s : State} (htv : s.tv = true) {p : Word} (hlow : -2 ^ 28 ≤ p.toInt)
    (hhigh : p.toInt ≤ 2 ^ 28 - 1) : pitchResult s p = some (pitchFrequency s.pitcht p.toInt) := by
  obtain ⟨k, hp, hk⟩ := pitch_interval hlow hhigh
  have hindex : pitchIndex p = k := (pitchIndex_eq p).trans hp
  rw [pitchResult_of_tv htv hindex (by omega), blend_eq_interpolated _ _ (pitchWeight_le p), pitchWeight_eq,
    pitchFrequency_eq _ hp hk]

/-- Both variants answer the frequency of the clamped pitch: the width of the clamp is all they differ in (R161, R162, R166). -/
theorem mtofResult_of_tv {s : State} (htv : s.tv = true) {n : Nat} (h1 : 1 ≤ n) (hn : n ≤ 29) (a : Word) :
    mtofResult n s a = some (pitchFrequency s.pitcht (min (max a.toInt (-2 ^ (n - 1))) (2 ^ (n - 1) - 1))) := by
  have hpos : (1 : Int) ≤ 2 ^ (n - 1) := one_le_pow₀ (by norm_num)
  have hpow : (2 : Int) ^ (n - 1) ≤ 2 ^ 28 := pow_le_pow_right₀ (by norm_num) (by omega)
  have hclamp := ssat_toInt h1 (by omega) a
  rw [mtofResult, pitchResult_eq_frequency htv (by omega) (by omega), hclamp]

theorem exec_mtof_of_tv {s : State} (htv : s.tv = true) (a : Word) :
    exec (.mtof a) s =
      .next (s.respond (.result (pitchFrequency s.pitcht (min (max a.toInt (-2 ^ 27)) (2 ^ 27 - 1))))) := by
  rw [exec_mtof, mtofResult_of_tv htv (by decide) (by decide)]
  rfl

theorem exec_mtofx_of_tv {s : State} (htv : s.tv = true) (a : Word) :
    exec (.mtofx a) s =
      .next (s.respond (.result (pitchFrequency s.pitcht (min (max a.toInt (-2 ^ 28)) (2 ^ 28 - 1))))) := by
  rw [exec_mtofx, mtofResult_of_tv htv (by decide) (by decide)]
  rfl

/-- Operands that are clamped to one pitch have one outcome (R169). -/
theorem exec_mtof_congr {s : State} (htv : s.tv = true) {a b : Word}
    (h : min (max a.toInt (-2 ^ 27)) (2 ^ 27 - 1) = min (max b.toInt (-2 ^ 27)) (2 ^ 27 - 1)) :
    exec (.mtof a) s = exec (.mtof b) s := by
  rw [exec_mtof_of_tv htv, exec_mtof_of_tv htv, h]

theorem exec_mtofx_congr {s : State} (htv : s.tv = true) {a b : Word}
    (h : min (max a.toInt (-2 ^ 28)) (2 ^ 28 - 1) = min (max b.toInt (-2 ^ 28)) (2 ^ 28 - 1)) :
    exec (.mtofx a) s = exec (.mtofx b) s := by
  rw [exec_mtofx_of_tv htv, exec_mtofx_of_tv htv, h]

/-! ## The pitch table of a CORE -/

/-- While `TV = 1` a consistent state holds the configuration's pitch table (R35). -/
theorem pitcht_of_consistent {s : State} (hs : s.Consistent) (htv : s.tv = true) : s.pitcht = s.cfg.tabPitcht :=
  LoadedFrom.pitcht_eq ⟨htv, hs.2, rfl⟩

/-- The entries are at most `MAXW`, so none is negative as a signed word (R126, R164). -/
theorem tabPitcht_toInt {c : TableConfig} (hc : c.Valid) {i : Nat} (hi : i < 257) :
    c.tabPitcht[i].toInt = c.tabPitcht[i].toNat := by
  obtain ⟨-, -, -, hbounded, -⟩ := hc
  exact weight_toInt (hbounded ⟨i, hi⟩)

theorem tabPitcht_nonneg {c : TableConfig} (hc : c.Valid) {i : Nat} (hi : i < 257) : 0 ≤ c.tabPitcht[i].toInt := by
  rw [tabPitcht_toInt hc hi]
  exact Int.natCast_nonneg _

/-- Neighbouring entries do not decrease as signed words (R126). -/
theorem tabPitcht_le_next {c : TableConfig} (hc : c.Valid) {i : Nat} (hi : i + 1 < 257) :
    c.tabPitcht[i].toInt ≤ c.tabPitcht[i + 1].toInt := by
  rw [tabPitcht_toInt hc (Nat.lt_of_succ_lt hi), tabPitcht_toInt hc hi]
  obtain ⟨-, -, -, -, hstep, -⟩ := hc
  exact Int.ofNat_le.mpr (hstep ⟨i, Nat.lt_of_succ_lt_succ hi⟩)

theorem tabPitcht_mono {c : TableConfig} (hc : c.Valid) {i j : Nat} (hij : i ≤ j) (hj : j < 257) :
    c.tabPitcht[i].toInt ≤ c.tabPitcht[j].toInt := by
  obtain ⟨d, rfl⟩ := Nat.exists_eq_add_of_le hij
  induction d with
  | zero => exact le_rfl
  | succ d ih => exact (ih (Nat.le_add_right i d) (Nat.lt_of_succ_lt hj)).trans (tabPitcht_le_next hc hj)

/-- A pitch between the table positions `i` and `j` has a frequency that is not negative and at most 2 units outside their entries
(R164, R169). -/
theorem pitchFrequency_bounds {c : TableConfig} (hc : c.Valid) {p : Int} {i j : Nat} (hlow : ((i : Int) - 128) * 2 ^ 21 ≤ p)
    (hhigh : p < ((j : Int) - 128) * 2 ^ 21) (hi : i < 257) (hj : j < 257) :
    0 ≤ (pitchFrequency c.tabPitcht p).toInt ∧ c.tabPitcht[i].toInt - 2 ≤ (pitchFrequency c.tabPitcht p).toInt ∧
      (pitchFrequency c.tabPitcht p).toInt ≤ c.tabPitcht[j].toInt + 2 := by
  obtain ⟨k, hp, hk⟩ := pitch_interval (p := p) (by omega) (by omega)
  obtain ⟨hw0, hwmax⟩ := pitch_weight_bounds p
  have hfirst := tabPitcht_mono hc (i := i) (j := k) (by omega) (by omega)
  have hstep := tabPitcht_le_next hc (i := k) (by omega)
  have hlast := tabPitcht_mono hc (i := k + 1) (j := j) (by omega) hj
  have hentry := tabPitcht_nonneg hc (i := k) (by omega)
  have hnonneg := interpolated_nonneg hentry (hentry.trans hstep) hw0 hwmax
  have hbounds := interpolated_bounds hentry hstep hw0 hwmax
  rw [pitchFrequency_eq _ hp hk]
  exact ⟨hnonneg, by omega, by omega⟩

/-- The frequency rises with the pitch but for 2 units (R167). In one interval the weight rises; over two intervals the entry
between them separates the weighted sums. -/
theorem pitchFrequency_rises {c : TableConfig} (hc : c.Valid) {p q : Int} (hp : -2 ^ 28 ≤ p) (hpq : p ≤ q)
    (hq : q ≤ 2 ^ 28 - 1) : (pitchFrequency c.tabPitcht p).toInt - 2 ≤ (pitchFrequency c.tabPitcht q).toInt := by
  obtain ⟨k, hpk, hk⟩ := pitch_interval hp (hpq.trans hq)
  obtain ⟨l, hql, hl⟩ := pitch_interval (hp.trans hpq) hq
  have hpw := pitch_weight_bounds p
  have hqw := pitch_weight_bounds q
  have hstep := tabPitcht_le_next hc (i := k) (by omega)
  rw [pitchFrequency_eq _ hpk hk, pitchFrequency_eq _ hql hl]
  apply interpolated_le_of_weightedSum_le hpw hqw
  rcases Nat.eq_or_lt_of_le (show k ≤ l by omega) with rfl | hkl
  · exact weightedSum_mono hstep (by omega)
  · have hbetween := tabPitcht_mono hc (i := k + 1) (j := l) hkl (by omega)
    have hstep' := tabPitcht_le_next hc (i := l) (by omega)
    obtain ⟨-, hupper⟩ := weightedSum_bounds hstep hpw.1 hpw.2
    obtain ⟨hlower, -⟩ := weightedSum_bounds hstep' hqw.1 hqw.2
    omega

/-- Pitch zero has weight 0, at which a sample that is not negative comes back one lower when it is odd (R107, R168). -/
theorem pitchFrequency_zero_toInt {c : TableConfig} (hc : c.Valid) :
    (pitchFrequency c.tabPitcht 0).toInt = c.tabPitcht[128].toInt - c.tabPitcht[128].toInt % 2 := by
  have hnonneg := tabPitcht_nonneg hc (i := 128) (by decide)
  have hbounds := word_toInt_bounds c.tabPitcht[128]
  have hweight : (0 : Int) % 2 ^ 21 * 2 ^ 10 = 0 := by decide
  rw [pitchFrequency_eq (k := 128) _ (by decide) (by decide), hweight, interpolated_toInt _ _ le_rfl (by decide)]
  omega

theorem reference_pitcht_centre : Reference.config.tabPitcht[128].toInt = 0x01C20D2E := by decide +kernel

/-- The reference table's centre entry is even (R168). -/
theorem pitchFrequency_zero_reference : pitchFrequency Reference.config.tabPitcht 0 = 0x01C20D2E := by
  apply BitVec.eq_of_toInt_eq
  rw [pitchFrequency_zero_toInt Reference.config_valid, reference_pitcht_centre]
  decide

/-! ## The statements -/

/-- Settles O28: the answer is the frequency of the clamped pitch, which is the interpolation of its two entries. -/
theorem mtofInterpolates : Obligations.MtofInterpolates := by
  intro s a p htv hp
  obtain ⟨y1, y2, hy1, hy2, hfreq⟩ := pitchFrequency_entries s.pitcht (p := p) (by omega) (by omega)
  refine ⟨by omega, by omega, y1, y2, hy1, hy2, ?_⟩
  rw [exec_mtof_of_tv htv, ← hp, hfreq]
  rfl

/-- Settles O29: as MTOF, with the wider clamp. -/
theorem mtofxInterpolates : Obligations.MtofxInterpolates := by
  intro s a p htv hp
  obtain ⟨y1, y2, hy1, hy2, hfreq⟩ := pitchFrequency_entries s.pitcht (p := p) (by omega) (by omega)
  refine ⟨by omega, by omega, y1, y2, hy1, hy2, ?_⟩
  rw [exec_mtofx_of_tv htv, ← hp, hfreq]
  rfl

/-- Settles O30: the one function is `pitchFrequency` of the table, and on the standard range neither clamp moves the operand. -/
theorem mtofxAgreesOnStandardRange : Obligations.MtofxAgreesOnStandardRange := by
  intro s htv
  refine ⟨⟨pitchFrequency s.pitcht, fun p => pitchFrequency_entries s.pitcht,
    fun a => ⟨exec_mtof_of_tv htv a, exec_mtofx_of_tv htv a⟩⟩, fun a hlow hhigh => ?_⟩
  have hclamps : min (max a.toInt (-2 ^ 28)) (2 ^ 28 - 1) = min (max a.toInt (-2 ^ 27)) (2 ^ 27 - 1) := by omega
  rw [exec_mtofx_of_tv htv, exec_mtof_of_tv htv, hclamps]

/-- Settles O31: the operand and the nearest pitch in range are clamped to the same pitch. -/
theorem pitchOperandSaturates : Obligations.PitchOperandSaturates := by
  intro s a htv
  have hstdMax : (0x07FFFFFF : Word).toInt = 2 ^ 27 - 1 := by decide
  have hstdMin : (0xF8000000 : Word).toInt = -2 ^ 27 := by decide
  have hextMax : (0x0FFFFFFF : Word).toInt = 2 ^ 28 - 1 := by decide
  have hextMin : (0xF0000000 : Word).toInt = -2 ^ 28 := by decide
  exact ⟨fun h => exec_mtof_congr htv (by omega), fun h => exec_mtof_congr htv (by omega),
    fun h => exec_mtofx_congr htv (by omega), fun h => exec_mtofx_congr htv (by omega)⟩

/-- Settles O32: the clamps keep the pitch between the table positions 64 and 192, and 0 and 256. -/
theorem pitchResultInTableRange : Obligations.PitchResultInTableRange := by
  intro s a hs htv
  refine ⟨⟨_, exec_mtof_of_tv htv a, ?_⟩, ⟨_, exec_mtofx_of_tv htv a, ?_⟩⟩
  · rw [pitcht_of_consistent hs htv]
    exact pitchFrequency_bounds hs.1 (i := 64) (j := 192) (by omega) (by omega) (by decide) (by decide)
  · rw [pitcht_of_consistent hs htv]
    exact pitchFrequency_bounds hs.1 (i := 0) (j := 256) (by omega) (by omega) (by decide) (by decide)

/-- Settles O33: a clamp keeps the order of the operands, and the frequency rises with the clamped pitch. -/
theorem frequencyRisesWithPitch : Obligations.FrequencyRisesWithPitch := by
  intro s a1 a2 hs htv hlt
  have hstd := exec_mtof_of_tv htv
  have hext := exec_mtofx_of_tv htv
  rw [pitcht_of_consistent hs htv] at hstd hext
  exact ⟨⟨_, _, hstd a1, hstd a2, pitchFrequency_rises hs.1 (by omega) (by omega) (by omega)⟩,
    ⟨_, _, hext a1, hext a2, pitchFrequency_rises hs.1 (by omega) (by omega) (by omega)⟩⟩

/-- Settles O34: neither clamp moves pitch zero, and `pitchFrequency` at zero is the centre entry made even. -/
theorem pitchZeroIsCentre : Obligations.PitchZeroIsCentre := by
  refine ⟨fun s hs htv => ⟨_, exec_mtof_of_tv htv 0, exec_mtofx_of_tv htv 0, ?_⟩, fun s htv href => ?_⟩
  · rw [pitcht_of_consistent hs htv]
    exact pitchFrequency_zero_toInt hs.1
  · rw [← pitchFrequency_zero_reference, ← href]
    exact ⟨exec_mtof_of_tv htv 0, exec_mtofx_of_tv htv 0⟩

end Sys2Proof.Proofs
end

section
/-! PROOFS of the statements about the fast logarithm (spec/45_fast_log.md): the octave and interval of an operand, the order of
the results, and their distance from the real logarithm. -/

namespace Sys2Proof.Proofs

open Sys2Proof Sys2Proof.Machine Sys2Proof.Certificates

/-! ## The octave and the interval of an operand -/

theorem word_ne_zero_of_pos {a : Word} (h : 0 < a.toNat) : a ≠ 0 := by
  rintro rfl
  exact Nat.lt_irrefl 0 h

/-- The octave `n` is the one that holds the operand (R14). -/
theorem msb_eq {a : Word} {n : Nat} (hlow : 2 ^ n ≤ a.toNat) (hhigh : a.toNat < 2 ^ (n + 1)) : msb a = n := by
  have hpos : a.toNat ≠ 0 := ((Nat.two_pow_pos n).trans_le hlow).ne'
  exact (Nat.log2_eq_iff hpos).mpr ⟨hlow, hhigh⟩

theorem msb_mono {a b : Word} (hab : a.toNat ≤ b.toNat) : msb a ≤ msb b := by
  rw [msb, msb, Nat.log2_eq_log_two, Nat.log2_eq_log_two]
  exact Nat.log_mono_right hab

/-- The mantissa is the eight bits below the leading one of the operand shifted up to bit 31 (R181). -/
theorem logMantissa_eq (a : Word) : logMantissa a = a.toNat * 2 ^ (31 - msb a) / 2 ^ 23 % 256 := by
  simp only [logMantissa, lsl32, BitVec.extractLsb_toNat, BitVec.toNat_shiftLeft, Nat.shiftRight_eq_div_pow,
    Nat.shiftLeft_eq]
  omega

/-- The octave `n` is cut into 256 intervals of `2^n / 256`, and the mantissa is the number of the operand's (R181, R182). -/
theorem logMantissa_interval {a : Word} (ha : a ≠ 0) :
    (256 + logMantissa a) * 2 ^ msb a ≤ a.toNat * 2 ^ 8 ∧ a.toNat * 2 ^ 8 < (257 + logMantissa a) * 2 ^ msb a := by
  obtain ⟨hlow, hhigh⟩ := msb_bounds ha
  have hnorm : 2 ^ msb a * 2 ^ (31 - msb a) = 2 ^ 31 := by
    rw [← pow_add, Nat.add_sub_of_le (Nat.le_of_lt_succ (msb_lt a))]
  have hmant := logMantissa_eq a
  have hpos : 0 < 2 ^ (31 - msb a) := Nat.two_pow_pos _
  have hnormLow := Nat.mul_le_mul_right (2 ^ (31 - msb a)) hlow
  have hnormHigh := Nat.mul_lt_mul_of_pos_right hhigh hpos
  rw [pow_succ, Nat.mul_right_comm, hnorm] at hnormHigh
  rw [hnorm] at hnormLow
  constructor
  · apply Nat.le_of_mul_le_mul_right _ hpos
    rw [Nat.mul_assoc, hnorm, Nat.mul_right_comm]
    omega
  · apply Nat.lt_of_mul_lt_mul_right (a := 2 ^ (31 - msb a))
    rw [Nat.mul_assoc _ (2 ^ msb a), hnorm, Nat.mul_right_comm]
    omega

/-- In one octave the mantissa does not fall as the operand rises (R183). -/
theorem logMantissa_mono {a b : Word} (ha : a ≠ 0) (hb : b ≠ 0) (hmsb : msb a = msb b) (hab : a.toNat ≤ b.toNat) :
    logMantissa a ≤ logMantissa b := by
  obtain ⟨hlow, -⟩ := logMantissa_interval ha
  obtain ⟨-, hhigh⟩ := logMantissa_interval hb
  rw [hmsb] at hlow
  have hlt : 256 + logMantissa a < 257 + logMantissa b :=
    Nat.lt_of_mul_lt_mul_right (hlow.trans_lt ((Nat.mul_le_mul_right _ hab).trans_lt hhigh))
  omega

/-- The operands of the first interval of an octave have mantissa 0 (R181). -/
theorem logMantissa_eq_zero {a : Word} (ha : a ≠ 0) (h : a.toNat * 2 ^ 8 < 257 * 2 ^ msb a) : logMantissa a = 0 := by
  obtain ⟨hlow, -⟩ := logMantissa_interval ha
  have hlt : 256 + logMantissa a < 257 := Nat.lt_of_mul_lt_mul_right (hlow.trans_lt h)
  omega

/-! ## LOG2 while `TV = 1` -/

/-- The logarithm by the log table `t` (R181): what LOG2 answers for a non-zero operand, by `exec_log2_of_tv`. -/
def tableLog2 (t : Vector Half 256) (a : Word) : Word :=
  logValue (msb a) (t[logMantissa a]'(logMantissa_lt a))

theorem exec_log2_of_tv {s : State} (htv : s.tv = true) {a : Word} (ha : a ≠ 0) :
    exec (.log2 a) s = .next (s.respond (.result (tableLog2 s.logt a))) := by
  rw [exec_log2, log2Result_of_tv htv ha, State.answer_some]
  rfl

/-- The largest log value is that of octave 31 and the largest element (R181). -/
theorem logValue_bound {n : Nat} (hn : n < 32) (e : Half) : 2 ^ 21 * n + 2 ^ 5 * e.toNat ≤ 67108832 := by
  have := e.isLt
  omega

/-- The logarithm is never negative as a signed word, so the octave and the element can be read off it (R181). -/
theorem tableLog2_toInt (t : Vector Half 256) (a : Word) :
    (tableLog2 t a).toInt = 2 ^ 21 * msb a + 2 ^ 5 * ((t[logMantissa a]'(logMantissa_lt a)).toNat : Int) := by
  have hnat : (tableLog2 t a).toNat = _ := logValue_toNat (msb_lt a) _
  have hbound := logValue_bound (msb_lt a) (t[logMantissa a]'(logMantissa_lt a))
  rw [BitVec.toInt_eq_toNat_of_lt (by omega), hnat]
  push_cast
  rfl

theorem tableLog2_nonneg (t : Vector Half 256) (a : Word) : 0 ≤ (tableLog2 t a).toInt := by
  rw [tableLog2_toInt]
  omega

theorem tableLog2_congr (t : Vector Half 256) {a b : Word} (hmsb : msb a = msb b) (hmant : logMantissa a = logMantissa b) :
    tableLog2 t a = tableLog2 t b := by
  simp only [tableLog2, hmsb, hmant]

/-- The step to a higher octave is upward, whatever the table holds: an element is below a whole octave (R183). -/
theorem tableLog2_lt_of_msb_lt (t : Vector Half 256) {a b : Word} (h : msb a < msb b) :
    (tableLog2 t a).toInt < (tableLog2 t b).toInt := by
  have := (t[logMantissa a]'(logMantissa_lt a)).isLt
  rw [tableLog2_toInt, tableLog2_toInt]
  omega

/-! ## The log table of a CORE -/

/-- While `TV = 1` a consistent state holds the configuration's log table (R35). -/
theorem logt_of_consistent {s : State} (hs : s.Consistent) (htv : s.tv = true) : s.logt = s.cfg.tabLogt :=
  LoadedFrom.logt_eq ⟨htv, hs.2, rfl⟩

theorem tabLogt_mono {c : TableConfig} (hc : c.Valid) {i j : Nat} (hij : i ≤ j) (hj : j < 256) :
    c.tabLogt[i] ≤ c.tabLogt[j] := by
  obtain ⟨-, -, -, -, -, -, hstep⟩ := hc
  obtain ⟨d, rfl⟩ := Nat.exists_eq_add_of_le hij
  induction d with
  | zero => exact BitVec.le_refl _
  | succ d ih =>
    have hbelow := ih (Nat.le_add_right i d) (Nat.lt_of_succ_lt hj)
    exact BitVec.le_trans hbelow (hstep ⟨i + d, Nat.lt_of_succ_lt_succ hj⟩)

/-- In one octave the logarithm does not fall, as the table does not (R183). -/
theorem tableLog2_le_of_msb_eq {c : TableConfig} (hc : c.Valid) {a b : Word} (ha : a ≠ 0) (hb : b ≠ 0)
    (hmsb : msb a = msb b) (hab : a.toNat ≤ b.toNat) :
    (tableLog2 c.tabLogt a).toInt ≤ (tableLog2 c.tabLogt b).toInt := by
  have hentry := BitVec.le_def.mp (tabLogt_mono hc (logMantissa_mono ha hb hmsb hab) (logMantissa_lt b))
  rw [tableLog2_toInt, tableLog2_toInt, hmsb]
  omega

/-- The logarithm does not fall as the operand rises (R183). -/
theorem tableLog2_mono {c : TableConfig} (hc : c.Valid) {a b : Word} (ha : a ≠ 0) (hb : b ≠ 0) (hab : a.toNat ≤ b.toNat) :
    (tableLog2 c.tabLogt a).toInt ≤ (tableLog2 c.tabLogt b).toInt := by
  rcases (msb_mono hab).lt_or_eq with hlt | heq
  · exact (tableLog2_lt_of_msb_lt _ hlt).le
  · exact tableLog2_le_of_msb_eq hc ha hb heq hab

/-- Equal logarithms come from one octave and from equal elements: the value determines both (R181). -/
theorem tableLog2_toInt_inj (t : Vector Half 256) {a b : Word} (h : (tableLog2 t a).toInt = (tableLog2 t b).toInt) :
    msb a = msb b ∧ t[logMantissa a]? = t[logMantissa b]? := by
  rw [tableLog2_toInt, tableLog2_toInt] at h
  have hea := (t[logMantissa a]'(logMantissa_lt a)).isLt
  have heb := (t[logMantissa b]'(logMantissa_lt b)).isLt
  rw [Vector.getElem?_eq_getElem (logMantissa_lt a), Vector.getElem?_eq_getElem (logMantissa_lt b), Option.some_inj,
    ← BitVec.toNat_inj]
  omega

/-- In the first interval of the octave `n` the logarithm is `n` (R181, R128). -/
theorem exec_log2_first_interval {s : State} (hs : s.Consistent) (htv : s.tv = true) {a : Word} {n : Nat}
    (hlow : 2 ^ n ≤ a.toNat) (hhigh : a.toNat * 2 ^ 8 < 257 * 2 ^ n) :
    exec (.log2 a) s = .next (s.respond (.result (BitVec.ofNat 32 (2 ^ 21 * n)))) := by
  obtain ⟨-, -, -, -, -, hzero, -⟩ := hs.1
  have ha : a ≠ 0 := word_ne_zero_of_pos ((Nat.two_pow_pos n).trans_le hlow)
  have hmsb : msb a = n := msb_eq hlow (by rw [pow_succ]; omega)
  have hmant : logMantissa a = 0 := logMantissa_eq_zero ha (by rwa [hmsb])
  have hvalue : tableLog2 s.logt a = BitVec.ofNat 32 (2 ^ 21 * n) := by
    simp only [tableLog2, hmsb, hmant, logt_of_consistent hs htv, hzero]
    rfl
  rw [exec_log2_of_tv htv ha, hvalue]

/-! ## The real logarithm -/

theorem octave_add_logb (n : Nat) {x : ℝ} (hx : 0 < x) : n + Real.logb 2 x = Real.logb 2 (2 ^ n * x) := by
  rw [Real.logb_mul (by positivity) hx.ne', Real.logb_pow, Real.logb_self_eq_one one_lt_two, mul_one]

/-- The real logarithm of an operand is at least that of the start of its interval, and above it by less than
`log2(257/256)`, the width of the first interval, which is the widest (R182). -/
theorem logb_operand_bounds {a : Word} (ha : a ≠ 0) :
    msb a + Real.logb 2 (1 + (logMantissa a : ℝ) / 256) ≤ Real.logb 2 a.toNat ∧
    Real.logb 2 a.toNat < msb a + Real.logb 2 (1 + (logMantissa a : ℝ) / 256) + Real.logb 2 (257 / 256) := by
  obtain ⟨hlow, hhigh⟩ := logMantissa_interval ha
  have hlow' : ((256 : ℝ) + logMantissa a) * 2 ^ msb a ≤ a.toNat * 2 ^ 8 := mod_cast hlow
  have hhigh' : (a.toNat : ℝ) * 2 ^ 8 < (257 + logMantissa a) * 2 ^ msb a := mod_cast hhigh
  have hstart : (0 : ℝ) < 1 + (logMantissa a : ℝ) / 256 := by positivity
  have hscaled : (0 : ℝ) < 2 ^ msb a * (1 + (logMantissa a : ℝ) / 256) := by positivity
  have hrest : (0 : ℝ) ≤ logMantissa a * 2 ^ msb a := by positivity
  rw [octave_add_logb _ hstart, ← Real.logb_mul hscaled.ne' (by norm_num)]
  exact ⟨Real.logb_le_logb_of_le one_lt_two hscaled (by linarith),
    Real.logb_lt_logb one_lt_two (by linarith) (by linarith)⟩

/-- The reference table's element is the scaled logarithm of the start of its interval, rounded down (R128). -/
theorem reference_logt_bounds {m : Nat} (hm : m < 256) :
    (Reference.config.tabLogt[m].toNat : ℝ) / 2 ^ 16 ≤ Real.logb 2 (1 + (m : ℝ) / 256) ∧
    Real.logb 2 (1 + (m : ℝ) / 256) < Reference.config.tabLogt[m].toNat / 2 ^ 16 + 1 / 2 ^ 16 := by
  obtain ⟨hle, hlt⟩ := Int.floor_eq_iff.mp (referenceLogFormula ⟨m, hm⟩).symm
  rw [Int.cast_natCast] at hle hlt
  constructor <;> linarith

/-- The logarithm at its scale: the octave and the element as a fraction (R182). -/
theorem tableLog2_scaled (t : Vector Half 256) (a : Word) :
    ((tableLog2 t a).toInt : ℝ) / 2 ^ 21 = msb a + ((t[logMantissa a]'(logMantissa_lt a)).toNat : ℝ) / 2 ^ 16 := by
  rw [tableLog2_toInt]
  push_cast
  ring

/-! ## The statements -/

/-- Settles O36: the octave that holds the operand is `msb`, and `logMantissa_eq` gives the eight bits below it. -/
theorem log2LooksUpMantissa : Obligations.Log2LooksUpMantissa := by
  refine ⟨fun s => ?_, fun s a n htv hlow hhigh => ?_⟩
  · rw [exec_log2, log2Result_zero]
    rfl
  · have hmsb := msb_eq hlow hhigh
    subst hmsb
    have ha : a ≠ 0 := word_ne_zero_of_pos ((Nat.two_pow_pos _).trans_le hlow)
    rw [← logMantissa_eq]
    exact ⟨_, Vector.getElem?_eq_getElem (logMantissa_lt a), exec_log2_of_tv htv ha, logValue_bound (msb_lt a) _⟩

/-- Settles O37: 1, the powers of two, 0x200 and 0x201 lie in the first interval of their octave; for the rest the logarithm does
not fall and its value determines the octave and the element. -/
theorem log2DoesNotFall : Obligations.Log2DoesNotFall := by
  refine ⟨fun s hs htv => ?_, fun s a1 a2 hs htv hpos hlt => ?_⟩
  · have hfirst {a : Word} {n : Nat} := exec_log2_first_interval hs htv (a := a) (n := n)
    refine ⟨hfirst (n := 0) (by decide) (by decide), fun n hn => ?_, hfirst (n := 9) (by decide) (by decide),
      hfirst (n := 9) (by decide) (by decide)⟩
    have hpow : (BitVec.ofNat 32 (2 ^ n)).toNat = 2 ^ n :=
      Nat.mod_eq_of_lt (Nat.pow_lt_pow_right Nat.one_lt_two hn)
    have hoctave := Nat.two_pow_pos n
    exact hfirst (by omega) (by omega)
  · have ha1 := word_ne_zero_of_pos hpos
    have ha2 := word_ne_zero_of_pos (hpos.trans hlt)
    have hmono := tableLog2_mono hs.1 ha1 ha2 hlt.le
    rw [← logt_of_consistent hs htv] at hmono
    exact ⟨_, _, exec_log2_of_tv htv ha1, exec_log2_of_tv htv ha2, tableLog2_nonneg s.logt a1, hmono,
      fun hmsb => hmono.lt_of_ne fun h => hmsb (tableLog2_toInt_inj s.logt h).1,
      fun hentry => hmono.lt_of_ne fun h => hentry (tableLog2_toInt_inj s.logt h).2,
      fun hmsb hmant => tableLog2_congr s.logt hmsb hmant⟩

/-- Settles O39: the element loses less than `2^-16` of the logarithm of the start of the interval, and the bits below the
mantissa less than `log2(257/256)`. -/
theorem referenceLog2Accuracy : Obligations.ReferenceLog2Accuracy := by
  intro s a htv href ha
  have hresult := exec_log2_of_tv htv ha
  rw [href] at hresult
  obtain ⟨hstart, hwidth⟩ := logb_operand_bounds ha
  obtain ⟨hle, hlt⟩ := reference_logt_bounds (logMantissa_lt a)
  refine ⟨_, hresult, ?_⟩
  rw [tableLog2_scaled]
  constructor <;> linarith

end Sys2Proof.Proofs
end

section
/-! PROOFS of the statements about the conversions (spec/46_conversions.md): the two shifts over integers, and the integer that FL2F
computes from the fields of its operand. -/

namespace Sys2Proof.Proofs

open Sys2Proof Sys2Proof.Machine Sys2Proof.Certificates

/-! ## I2F and F2I over integers -/

/-- The low 11 bits of a word, followed by 21 zeros (R191). -/
theorem i2f_toNat (a : Word) : (i2f a).toNat = a.toNat % 2 ^ 11 * 2 ^ 21 := by
  simp only [i2f, lsl32, Config.fracBits, BitVec.toNat_shiftLeft, Nat.shiftLeft_eq]
  omega

/-- I2F as the pseudocode of R191 writes it. -/
theorem i2f_eq_trunc32 (a : Word) : i2f a = trunc32 (a.toInt * 2 ^ 21) := by
  rw [trunc32, BitVec.ofInt_mul, BitVec.ofInt_toInt, i2f, lsl32, BitVec.shiftLeft_eq_mul_twoPow]
  rfl

/-- F2I as the pseudocode of R192 writes it. -/
theorem f2i_eq_trunc32 (a : Word) : f2i a = trunc32 (a.toInt / 2 ^ 21) := by
  rw [← f2i_toInt, trunc32, BitVec.ofInt_toInt]

/-- A fixed-point word lies below 1024 in size (R192). -/
theorem f2i_toInt_bounds (a : Word) : -1024 ≤ (f2i a).toInt ∧ (f2i a).toInt ≤ 1023 := by
  have ha := word_toInt_bounds a
  rw [f2i_toInt]
  omega

theorem low11_toNat (n : Word) : (n.extractLsb' 0 11).toNat = n.toNat % 2 ^ 11 := by
  rw [BitVec.extractLsb'_toNat, Nat.shiftRight_zero]

/-- The low 11 bits, read as a signed number, are the word itself where eleven bits hold it (R191, R194). -/
theorem low11_toInt_eq_iff (n : Word) : (n.extractLsb' 0 11).toInt = n.toInt ↔ -1024 ≤ n.toInt ∧ n.toInt ≤ 1023 := by
  have hn := n.isLt
  rw [BitVec.toInt_eq_toNat_cond, BitVec.toInt_eq_toNat_cond, low11_toNat]
  split <;> split <;> omega

/-- The result of I2F stands for the signed number in the low 11 bits of the operand, for every operand (R191). -/
theorem i2f_toInt (a : Word) : (i2f a).toInt = (a.extractLsb' 0 11).toInt * 2 ^ 21 := by
  rw [BitVec.toInt_eq_toNat_cond, BitVec.toInt_eq_toNat_cond, low11_toNat, i2f_toNat]
  split <;> split <;> omega

/-- I2F is exact on the integers that a fixed-point word can hold, and on no others (R191). -/
theorem i2f_toInt_exact_iff (a : Word) : (i2f a).toInt = a.toInt * 2 ^ 21 ↔ -1024 ≤ a.toInt ∧ a.toInt ≤ 1023 := by
  rw [← low11_toInt_eq_iff, i2f_toInt]
  omega

/-! ## The round trips -/

/-- The integer that F2I gives never wraps in I2F (R194). -/
theorem i2f_f2i_toInt (x : Word) : (i2f (f2i x)).toInt = 2 ^ 21 * (x.toInt / 2 ^ 21) := by
  rw [(i2f_toInt_exact_iff (f2i x)).mpr (f2i_toInt_bounds x), f2i_toInt, Int.mul_comm]

/-- The sign extension of the low 11 bits (R194). -/
theorem f2i_i2f (n : Word) : f2i (i2f n) = (n.extractLsb' 0 11).signExtend 32 := by
  apply BitVec.eq_of_toInt_eq
  rw [f2i_toInt, i2f_toInt, BitVec.toInt_signExtend_of_le (by decide), Int.mul_ediv_cancel _ (by decide)]

theorem f2i_i2f_eq_iff (n : Word) : f2i (i2f n) = n ↔ -1024 ≤ n.toInt ∧ n.toInt ≤ 1023 := by
  rw [← low11_toInt_eq_iff, f2i_i2f, ← BitVec.toInt_inj, BitVec.toInt_signExtend_of_le (by decide)]

/-- F2I undoes I2F on its own results (R194). -/
theorem f2i_i2f_f2i (x : Word) : f2i (i2f (f2i x)) = f2i x := (f2i_i2f_eq_iff (f2i x)).mpr (f2i_toInt_bounds x)

/-- The mask that clears the fraction has bits 21 to 31. -/
theorem fractionMask_getLsbD {i : Nat} (hi : i < 32) : (0xFFE00000 : Word).getLsbD i = decide (21 ≤ i) := by
  have hall : ∀ j : Fin 32, (0xFFE00000 : Word).getLsbD j = decide (21 ≤ j.val) := by decide
  exact hall ⟨i, hi⟩

/-- The pair clears the low 21 bits: bit `i` comes back from place `i - 21` when `i` is at least 21 (R194). -/
theorem i2f_f2i_eq_and (x : Word) : i2f (f2i x) = x &&& 0xFFE00000 := by
  apply BitVec.eq_of_getLsbD_eq
  intro i hi
  rw [BitVec.getLsbD_and, fractionMask_getLsbD hi, i2f, f2i, lsl32, asr32, BitVec.getLsbD_shiftLeft,
    BitVec.getLsbD_sshiftRight]
  by_cases hlow : i < 21
  · simp [hlow]
  · have hback : 21 + (i - 21) = i := by omega
    have hword : i - 21 < 32 := by omega
    simp [hi, hlow, hback, hword, Nat.le_of_not_lt hlow]

/-! ## The fields of a binary32 pattern -/

theorem binary32Of_exponent (a : Word) : (binary32Of a).exponent = a.toNat / 2 ^ 23 % 256 := by
  simp only [binary32Of, BitVec.extractLsb_toNat, Nat.shiftRight_eq_div_pow]

theorem binary32Of_fraction (a : Word) : (binary32Of a).fraction = a.toNat % 2 ^ 23 := by
  simp only [binary32Of, BitVec.extractLsb_toNat, Nat.shiftRight_zero]

theorem binary32Of_sign (a : Word) : (binary32Of a).sign = true ↔ a.toNat / 2 ^ 31 = 1 := by
  have ha := a.isLt
  simp only [binary32Of, BitVec.getLsbD, Nat.testBit_eq_decide_div_mod_eq, decide_eq_true_eq]
  omega

theorem binary32Of_fraction_lt (a : Word) : (binary32Of a).fraction < 2 ^ 23 := by
  rw [binary32Of_fraction]
  omega

/-- A pattern is determined by its fields (R196). -/
theorem word_eq_iff_fields (a b : Word) :
    a = b ↔ (binary32Of a).sign = (binary32Of b).sign ∧ (binary32Of a).exponent = (binary32Of b).exponent ∧
      (binary32Of a).fraction = (binary32Of b).fraction := by
  have ha := a.isLt
  have hb := b.isLt
  rw [Bool.eq_iff_iff, binary32Of_sign, binary32Of_sign, binary32Of_exponent, binary32Of_exponent, binary32Of_fraction,
    binary32Of_fraction, ← BitVec.toNat_inj]
  omega

/-- The pattern of -1024.0 by its fields (R193). -/
theorem eq_least_iff_fields (a : Word) :
    a = 0xC4800000 ↔ (binary32Of a).sign = true ∧ (binary32Of a).exponent = 137 ∧ (binary32Of a).fraction = 0 := by
  have hleast : binary32Of 0xC4800000 = ⟨true, 137, 0⟩ := by decide
  rw [word_eq_iff_fields, hleast]

/-! ## The scaled magnitude by the exponent field (R193) -/

section Magnitude

variable {x : Binary32}

/-- `scaledMagnitude` with the number of fraction bits written out. -/
theorem scaledMagnitude_eq (x : Binary32) :
    scaledMagnitude x = if x.exponent = 0 then x.fraction * 2 ^ 21 / 2 ^ 149
      else (2 ^ 23 + x.fraction) * 2 ^ x.exponent * 2 ^ 21 / 2 ^ 150 := rfl

theorem scaledMagnitude_of_normal (he : x.exponent ≠ 0) :
    scaledMagnitude x = (2 ^ 23 + x.fraction) * 2 ^ x.exponent * 2 ^ 21 / 2 ^ 150 :=
  if_neg he

/-- A subnormal loses all its bits. -/
theorem scaledMagnitude_of_subnormal (hf : x.fraction < 2 ^ 23) (he : x.exponent = 0) : scaledMagnitude x = 0 := by
  rw [scaledMagnitude_eq, if_pos he]
  exact Nat.div_eq_of_lt (by omega)

/-- The significand at an exponent field of at most `k` is at most `2^24 - 1` units of `k`. -/
theorem significand_le_of_exponent_le (hf : x.fraction < 2 ^ 23) {k : Nat} (he : x.exponent ≤ k) :
    (2 ^ 23 + x.fraction) * 2 ^ x.exponent ≤ (2 ^ 24 - 1) * 2 ^ k :=
  Nat.mul_le_mul (by omega) (Nat.pow_le_pow_right (by decide) he)

theorem le_significand_of_le_exponent {k : Nat} (he : k ≤ x.exponent) :
    2 ^ 23 * 2 ^ k ≤ (2 ^ 23 + x.fraction) * 2 ^ x.exponent :=
  Nat.mul_le_mul (by omega) (Nat.pow_le_pow_right (by decide) he)

theorem scaledMagnitude_eq_zero (hf : x.fraction < 2 ^ 23) (he : x.exponent ≤ 105) : scaledMagnitude x = 0 := by
  by_cases hzero : x.exponent = 0
  · exact scaledMagnitude_of_subnormal hf hzero
  · have hsig := significand_le_of_exponent_le hf he
    rw [scaledMagnitude_of_normal hzero]
    omega

theorem scaledMagnitude_lt (hf : x.fraction < 2 ^ 23) (he : x.exponent ≤ 136) : scaledMagnitude x < 2 ^ 31 := by
  by_cases hzero : x.exponent = 0
  · rw [scaledMagnitude_of_subnormal hf hzero]
    decide
  · have hsig := significand_le_of_exponent_le hf he
    rw [scaledMagnitude_of_normal hzero]
    omega

theorem le_scaledMagnitude (he : 137 ≤ x.exponent) : 2 ^ 31 ≤ scaledMagnitude x := by
  have hsig := le_significand_of_le_exponent he
  rw [scaledMagnitude_of_normal (by omega)]
  omega

/-- Of the magnitudes from `2^31` on, only the least is not above it. -/
theorem scaledMagnitude_le_iff (he : 137 ≤ x.exponent) :
    scaledMagnitude x ≤ 2 ^ 31 ↔ x.exponent = 137 ∧ x.fraction = 0 := by
  rw [scaledMagnitude_of_normal (by omega)]
  obtain heq | hgt : x.exponent = 137 ∨ 138 ≤ x.exponent := by omega
  · rw [heq]
    omega
  · have hsig := le_significand_of_le_exponent hgt
    omega

/-- FL2F's value fits a word up to the exponent field 136, and beyond it only as the least word (R193). -/
theorem scaledValue_fits_iff (hf : x.fraction < 2 ^ 23) :
    (-2 ^ 31 ≤ scaledValue x ∧ scaledValue x ≤ 2 ^ 31 - 1) ↔
      x.exponent ≤ 136 ∨ (x.sign = true ∧ x.exponent = 137 ∧ x.fraction = 0) := by
  by_cases he : x.exponent ≤ 136
  · have hlt := scaledMagnitude_lt hf he
    unfold scaledValue
    split <;> omega
  · have hge := le_scaledMagnitude (x := x) (by omega)
    have hle := scaledMagnitude_le_iff (x := x) (by omega)
    by_cases hs : x.sign = true
    · rw [← hle, scaledValue, if_pos hs]
      simp only [hs, true_and]
      omega
    · rw [scaledValue, if_neg hs]
      simp only [hs, false_and, or_false, Bool.false_eq_true]
      omega

end Magnitude

/-! ## FL2F -/

/-- What FL2F computes from a finite pattern is the exact rational, scaled, with its fraction dropped (R193). -/
theorem floor_floatMagnitude (a : Word) : ⌊floatMagnitude a * 2 ^ 21⌋ = scaledMagnitude (binary32Of a) := by
  rw [scaledMagnitude_eq, floatMagnitude, binary32Of_exponent, binary32Of_fraction]
  split
  · rw [Int.natCast_ediv, ← Rat.floor_natCast_div_natCast, zpow_neg]
    push_cast
    congr 1
    ring
  · rw [Int.natCast_ediv, ← Rat.floor_natCast_div_natCast, zpow_sub₀ (by norm_num), zpow_natCast]
    push_cast
    congr 1
    ring

theorem floatScaled_eq (a : Word) : floatScaled a = scaledValue (binary32Of a) := by
  simp only [floatScaled, scaledValue, floor_floatMagnitude, binary32Of_sign]

/-- When the rule gives FL2F a result, and which (R193). -/
theorem fl2f_eq_some_iff (a r : Word) :
    fl2f a = some r ↔ (a.toNat / 2 ^ 23 % 256 ≠ 255 ∧ -2 ^ 31 ≤ floatScaled a ∧ floatScaled a ≤ 2 ^ 31 - 1) ∧
      trunc32 (floatScaled a) = r := by
  rw [floatScaled_eq, ← binary32Of_exponent, fl2f, Option.ite_none_right_eq_some, Option.some.injEq, Bool.and_eq_true,
    Binary32.isFinite, bne_iff_ne, fitsWord, decide_eq_true_eq]

/-- The rule gives a result up to the exponent field 136 and for -1024.0 (R193). -/
theorem exists_fl2f_eq_some_iff (a : Word) : (∃ r, fl2f a = some r) ↔ a.toNat / 2 ^ 23 % 256 ≤ 136 ∨ a = 0xC4800000 := by
  simp only [fl2f_eq_some_iff, exists_and_left, exists_eq', and_true]
  rw [floatScaled_eq, scaledValue_fits_iff (binary32Of_fraction_lt a), eq_least_iff_fields, ← binary32Of_exponent,
    and_iff_right_iff_imp]
  rintro (he | ⟨-, he, -⟩) <;> omega

/-- A magnitude below one unit of the result gives 0 (R193). -/
theorem fl2f_eq_zero {a : Word} (he : a.toNat / 2 ^ 23 % 256 ≤ 105) : fl2f a = some 0 := by
  have hzero : floatScaled a = 0 := by
    rw [← binary32Of_exponent] at he
    rw [floatScaled_eq, scaledValue, scaledMagnitude_eq_zero (binary32Of_fraction_lt a) he]
    exact ite_self 0
  rw [fl2f_eq_some_iff, hzero]
  exact ⟨⟨by omega, by decide, by decide⟩, rfl⟩

/-- -1024.0 gives the least word (R193). -/
theorem fl2f_least : fl2f 0xC4800000 = some 0x80000000 := by decide

/-- Where the rule gives a result, FL2F answers it in every state (R193). -/
theorem exec_fl2f_of_some {a r : Word} (h : fl2f a = some r) (s : State) :
    exec (.fl2f a) s = .next (s.respond (.result r)) := by
  rw [exec_fl2f, fl2fWord_of_some h, State.answer_some]

/-- Where it gives none, FL2F answers the operand's free word (log 5). -/
theorem exec_fl2f_of_none {a : Word} (h : fl2f a = none) (s : State) :
    exec (.fl2f a) s = .next (s.respond (.result (Config.freeFloat a))) := by
  rw [exec_fl2f, fl2fWord_of_none h, State.answer_some]

/-! ## The statements -/

/-- Settles O40, by `i2f_eq_trunc32`, `i2f_toInt_exact_iff` and `i2f_toNat`; the examples are evaluated. -/
theorem i2fShiftsAndWraps : Obligations.I2fShiftsAndWraps := by
  refine ⟨fun a b c => decode_of_keep rfl, fun s a => ?_, fun a => ⟨i2f_toInt_exact_iff a, i2f_toNat a⟩, by decide, by decide,
    by decide, by decide⟩
  rw [exec_i2f, State.answer_some, i2f_eq_trunc32]
  rfl

/-- Settles O41, by `f2i_eq_trunc32` and the range of a word; the examples are evaluated. -/
theorem f2iRoundsDown : Obligations.F2iRoundsDown := by
  refine ⟨fun a b c => decode_of_keep rfl, fun s a => ?_, fun a => ⟨f2i_toInt a, f2i_toInt_bounds a⟩, by decide, by decide,
    by decide, by decide, by decide, by decide⟩
  rw [exec_f2i, State.answer_some, f2i_eq_trunc32]
  rfl

/-- Settles O42: in range FL2F answers the scaled value by `fl2f_eq_some_iff`; everywhere else too its word is a function of the
operand. -/
theorem fl2fTruncatesTowardZero : Obligations.Fl2fTruncatesTowardZero := by
  refine fun a => ⟨fun hfinite hlow hhigh s => ?_, fun _ => ⟨fl2fWord a, exec_fl2f a⟩⟩
  exact exec_fl2f_of_some ((fl2f_eq_some_iff a _).mpr ⟨⟨hfinite, hlow, hhigh⟩, rfl⟩) s

/-- Settles O43: the range by the exponent field is `exists_fl2f_eq_some_iff`, and each value given is answered. -/
theorem fl2fRangeByExponent : Obligations.Fl2fRangeByExponent := fun s a =>
  ⟨exists_fl2f_eq_some_iff a, fun _ h => exec_fl2f_of_some h s, fun h => exec_fl2f_of_none h s,
    fun he => exec_fl2f_of_some (fl2f_eq_zero he) s, exec_fl2f_of_some fl2f_least s⟩

/-- Settles O44: after F2I nothing wraps, and after I2F the low 11 bits are what is left; the examples are evaluated. -/
theorem fixedPointRoundTrip : Obligations.FixedPointRoundTrip := by
  refine ⟨fun x => ⟨i2f_f2i_eq_and x, i2f_f2i_toInt x, ?_⟩, fun n => ⟨f2i_i2f_eq_iff n, f2i_i2f n⟩, by decide, by decide,
    by decide⟩
  rw [f2i_i2f_f2i]

end Sys2Proof.Proofs
end

section
/-! PROOFS of the statements about the generator (spec/47_random.md): what one step and one run do to the generator word, the
iterates of the generator over integers, and their period. -/

namespace Sys2Proof.Proofs

open Sys2Proof Sys2Proof.Machine

/-! ## The requests that the generator depends on -/

/-- A command served does to the generator word what `generatorAfter` reads off its packet (R203, R205). -/
theorem generatorAfter_command {p : Packet} {i : Instr} {s t : State} (hp : decode p = .ok i) (h : exec i s = .next t)
    (rest : List Request) : generatorAfter s.rng (.command p :: rest) = generatorAfter t.rng rest := by
  rw [generatorAfter, hp]
  cases i with
  | rand =>
    rw [exec_rand, State.answer_some] at h
    cases h
    rfl
  | seed a =>
    obtain rfl := State.complete_cases h
    rfl
  | rmul | rmla | rmls | init | sine | window | mtof | mtofx | log2 | i2f | f2i | fl2f => rw [exec_keeps_rng rfl h]

/-- One step takes its request over from the sequence into the generator word. -/
theorem step_generatorAfter {s t : State} (h : step s = .next t) (k : Nat) :
    generatorAfter s.rng (s.stream.take (k + 1)) = generatorAfter t.rng (t.stream.take k) := by
  have hstream := step_stream h
  obtain ⟨hs, rfl⟩ | ⟨rest, hs, rfl⟩ | ⟨p, rest, i, hs, hi, he⟩ := step_cases h
  · rw [hs, List.take_nil, List.take_nil]
  · rw [hstream, hs]
    rfl
  · rw [hstream, hs]
    exact generatorAfter_command hi he (rest.take k)

/-! ## RAND, once and `k` times -/

theorem exec_rand_next (s : State) :
    exec .rand s = .next { s with rng := lcgNext s.rng, response := .result (lcgNext s.rng) } := rfl

theorem exec_seed_next (s : State) (a : Word) : exec (.seed a) s = .next { s with rng := a, response := .completion } := rfl

theorem run_succ_of_step {s u : State} (h : step s = .next u) (k : Nat) :
    Sys2Proof.core.run (k + 1) s = Sys2Proof.core.run k u := by
  have hcore : Sys2Proof.core.step s = .next u := h
  simp only [Host.Core.run, hcore]

/-- `k` RAND commands presented are all served, each by one step of the generator (R201). -/
theorem run_rands {k : Nat} {s : State} (hs : s.stream = List.replicate k (.command (encode .rand))) :
    ∃ t : State, Sys2Proof.core.run k s = .next t ∧ t.rng = lcgNext^[k] s.rng := by
  induction k generalizing s with
  | zero => exact ⟨s, rfl, rfl⟩
  | succ k ih =>
    have hstep := (step_of_command hs (decode_encode .rand)).trans (exec_rand_next _)
    rw [run_succ_of_step hstep]
    exact ih rfl

/-! ## The generator over integers -/

theorem lcgNext_toNat (x : Word) : (lcgNext x).toNat = (907633515 + 196314165 * x.toNat) % 2 ^ 32 := by
  rw [lcgNext, BitVec.toNat_add, BitVec.toNat_mul, Nat.add_mod_mod]
  rfl

theorem lcgNext_eq_ofNat (x : Word) : lcgNext x = BitVec.ofNat 32 (907633515 + 196314165 * x.toNat) := by
  apply BitVec.eq_of_toNat_eq
  rw [lcgNext_toNat, BitVec.toNat_ofNat]

/-- What one step adds to the generator word, before the reduction modulo 2^32. -/
def lcgIncrease (x : Word) : Int := 907633515 + 196314164 * x.toNat

/-- The increment is odd and the multiplier less 1 is even: the reason why no word is its own successor (R201). -/
theorem lcgIncrease_odd (x : Word) : Odd (lcgIncrease x) := by
  rw [Int.odd_iff, lcgIncrease]
  omega

/-- The closed form of `k` steps: the increase of the first step, times the geometric sum of the multiplier's powers. -/
theorem lcgNext_iterate_modEq (k : Nat) (x : Word) :
    ((lcgNext^[k] x).toNat : Int) ≡ x.toNat + (∑ i ∈ Finset.range k, 196314165 ^ i) * lcgIncrease x [ZMOD 2 ^ 32] := by
  induction k with
  | zero => simp
  | succ k ih =>
    rw [Function.iterate_succ_apply', lcgNext_toNat, geom_sum_succ]
    push_cast
    calc (907633515 + 196314165 * ((lcgNext^[k] x).toNat : Int)) % 2 ^ 32
        ≡ 907633515 + 196314165 * (lcgNext^[k] x).toNat [ZMOD 2 ^ 32] := Int.mod_modEq _ _
      _ ≡ 907633515 + 196314165 * (x.toNat + (∑ i ∈ Finset.range k, 196314165 ^ i) * lcgIncrease x) [ZMOD 2 ^ 32] :=
        (ih.mul_left _).add_left _
      _ = x.toNat + (196314165 * (∑ i ∈ Finset.range k, 196314165 ^ i) + 1) * lcgIncrease x := by
        rw [lcgIncrease]
        ring

/-! ## The period -/

/-- A power of two divides the geometric sum of `k` powers of a multiplier that is 1 modulo 4 exactly when it divides `k`:
lifting the exponent, with the multiplier less 1 cancelled (R204). -/
theorem two_pow_dvd_geom_sum_iff {a : Int} (h4 : 4 ∣ a - 1) (h1 : a ≠ 1) (m k : Nat) :
    2 ^ m ∣ ∑ i ∈ Finset.range k, a ^ i ↔ 2 ^ m ∣ k := by
  have hodd : ¬ 2 ∣ a := by omega
  have hlift := Int.two_pow_sub_pow' k h4 hodd
  rw [one_pow, ← mul_geom_sum, emultiplicity_mul Int.prime_two] at hlift
  have hfinite : FiniteMultiplicity 2 (a - 1) := Int.finiteMultiplicity_iff.mpr ⟨by decide, sub_ne_zero.mpr h1⟩
  have hsum := ENat.add_right_injective_of_ne_top (finiteMultiplicity_iff_emultiplicity_ne_top.mp hfinite) hlift
  rw [pow_dvd_iff_le_emultiplicity, hsum, ← pow_dvd_iff_le_emultiplicity]
  exact_mod_cast Iff.rfl

/-- Hull and Dobell's theorem for this generator, for the low `m` bits of its word: `k` steps bring them back exactly when 2^m
divides `k` (R204). -/
theorem lcgNext_iterate_modEq_self_iff {m : Nat} (hm : m ≤ 32) (k : Nat) (x : Word) :
    (lcgNext^[k] x).toNat ≡ x.toNat [MOD 2 ^ m] ↔ 2 ^ m ∣ k := by
  have hclosed := (lcgNext_iterate_modEq k x).of_dvd (pow_dvd_pow 2 hm)
  have hcoprime : IsCoprime ((2 : Int) ^ m) (lcgIncrease x) :=
    (Int.isCoprime_two_left.mpr (lcgIncrease_odd x)).pow_left
  calc (lcgNext^[k] x).toNat ≡ x.toNat [MOD 2 ^ m]
      ↔ x.toNat + (∑ i ∈ Finset.range k, 196314165 ^ i) * lcgIncrease x ≡ x.toNat [ZMOD 2 ^ m] := by
        rw [← Int.natCast_modEq_iff]
        push_cast
        exact ⟨hclosed.symm.trans, hclosed.trans⟩
    _ ↔ 2 ^ m ∣ (∑ i ∈ Finset.range k, (196314165 : Int) ^ i) * lcgIncrease x := by
        rw [Int.modEq_comm, Int.modEq_iff_dvd, add_sub_cancel_left]
    _ ↔ 2 ^ m ∣ ∑ i ∈ Finset.range k, (196314165 : Int) ^ i := ⟨hcoprime.dvd_of_dvd_mul_right, fun h => h.mul_right _⟩
    _ ↔ 2 ^ m ∣ k := two_pow_dvd_geom_sum_iff (by decide) (by decide) m k

theorem lcgNext_iterate_eq_self_iff (k : Nat) (x : Word) : lcgNext^[k] x = x ↔ 2 ^ 32 ∣ k := by
  rw [← lcgNext_iterate_modEq_self_iff le_rfl, Nat.ModEq, Nat.mod_eq_of_lt (BitVec.isLt _), Nat.mod_eq_of_lt x.isLt,
    BitVec.toNat_inj]

/-- No word is its own successor: the period is not 1 (R201). -/
theorem lcgNext_ne_self (x : Word) : lcgNext x ≠ x := fun h =>
  absurd ((lcgNext_iterate_eq_self_iff 1 x).mp h) (by decide)

/-- Words that agree modulo 2^m agree in each of their low `m` bits. -/
theorem getLsbD_eq_of_modEq {x y : Word} {m j : Nat} (h : x.toNat ≡ y.toNat [MOD 2 ^ m]) (hj : j < m) :
    x.getLsbD j = y.getLsbD j := by
  have hbit := congrArg (·.testBit j) h
  simpa [Nat.testBit_mod_two_pow, hj, BitVec.testBit_toNat] using hbit

/-! ## The statements -/

/-- Settles O48, by induction on the number of steps: each takes over its request by `step_generatorAfter`. -/
theorem generatorDependsOnItsRequestsAlone : Obligations.GeneratorDependsOnItsRequestsAlone := by
  intro k s t h
  induction k generalizing s with
  | zero =>
    cases h
    rfl
  | succ k ih =>
    obtain ⟨u, hu, hrun⟩ := run_succ_cases h
    rw [step_generatorAfter hu]
    exact ih u hrun

/-- Settles O45: the word is `lcgNext`'s, which `lcgNext_ne_self` keeps apart from the old one; the examples are evaluated. -/
theorem randAdvancesGenerator : Obligations.RandAdvancesGenerator := by
  refine ⟨fun a b c => decode_of_keep rfl, fun s => ?_, fun s hs => ?_, ?_⟩
  · exact ⟨lcgNext s.rng, lcgNext_eq_ofNat s.rng, lcgNext_ne_self s.rng, exec_rand_next s⟩
  · refine ⟨_, exec_rand_next s, congrArg Response.result ?_⟩
    rw [hs]
    decide
  · have hnext : lcgNext State.reset.rng = 0xEEF79411 := by
      rw [State.reset_rng]
      decide
    exact ⟨_, exec_rand_next State.reset, congrArg Response.result hnext, hnext⟩

/-- Settles O47: `run_rands` runs the commands, and the period of the low bits is `lcgNext_iterate_modEq_self_iff`. -/
theorem generatorHasFullPeriod : Obligations.GeneratorHasFullPeriod := by
  intro s k
  obtain ⟨t, hrun, hrng⟩ := run_rands (s := s.withStream (List.replicate k (.command (encode .rand)))) rfl
  rw [State.withStream_rng] at hrng
  refine ⟨t, hrun, ?_, fun j hj hk => ?_⟩
  · rw [hrng, lcgNext_iterate_eq_self_iff]
  · rw [hrng]
    exact getLsbD_eq_of_modEq ((lcgNext_iterate_modEq_self_iff hj k s.rng).mpr hk) (Nat.lt_succ_self j)

/-- Settles O46: SEED's operand is the word that the next RAND steps from; the examples are evaluated. -/
theorem seedSetsGenerator : Obligations.SeedSetsGenerator := by
  have hseeded (s : State) (a : Word) : ∃ t u : State, exec (.seed a) s = .next t ∧ exec .rand t = .next u ∧
      u.response = .result (lcgNext a) := ⟨_, _, exec_seed_next s a, exec_rand_next _, rfl⟩
  refine ⟨fun a b c => decode_of_keep rfl, exec_seed_next, fun s a => ?_, fun s => ⟨_, exec_seed_next s _, rfl⟩,
    fun s => ?_⟩
  · rw [← lcgNext_eq_ofNat]
    exact hseeded s a
  · have hnext : lcgNext 1 = 0x41CCE7A0 := by decide
    rw [← hnext]
    exact hseeded s 1

end Sys2Proof.Proofs
end

section
/-! PROOFS of the statements about exceptions (spec/60_exceptions.md): when a result is specified, what an operation answers where
it is not, and the idle machine. -/

namespace Sys2Proof.Proofs

open Sys2Proof Sys2Proof.Machine

/-! ## Table reads while `TV = 0` -/

/-- SINE's result is not defined while `TV = 0` (R236). -/
theorem sineResult_of_not_tv {s : State} (htv : s.tv = false) (a : Word) : sineResult s a = none := by
  rw [sineResult, State.element_of_not_tv htv, blendRead_none_left]

/-- WINDOW's result is not defined while `TV = 0` (R236). -/
theorem windowResult_of_not_tv {s : State} (htv : s.tv = false) (a : Word) : windowResult s a = none := by
  rw [windowResult, State.element_of_not_tv htv, Option.map_none, blendRead_none_left]

/-- The result of MTOF and MTOFX is not defined while `TV = 0`, whatever the width of the clamp (R236). -/
theorem mtofResult_of_not_tv {s : State} (htv : s.tv = false) (n : Nat) (a : Word) : mtofResult n s a = none := by
  rw [mtofResult, pitchResult, State.element_of_not_tv htv, blendRead_none_left]

/-- LOG2's result is not defined while `TV = 0`, but for the operand 0 (R213, R236). -/
theorem log2Result_of_not_tv {s : State} (htv : s.tv = false) {a : Word} (ha : a ≠ 0) : log2Result s a = none := by
  have hzero : isZero a = false := beq_false_of_ne ha
  simp [log2Result, hzero, State.element_of_not_tv htv]

/-! ## When a result is specified -/

/-- FL2F's operand is in range exactly when the rule gives a result (R193). -/
theorem floatInRange_eq_isSome (a : Word) : floatInRange a = (fl2f a).isSome := by
  rw [Bool.eq_iff_iff, Option.isSome_iff_exists, exists_fl2f_eq_some_iff, ← binary32Of_exponent, floatInRange,
    Bool.or_eq_true, decide_eq_true_eq, beq_iff_eq]
  rfl

/-- LOG2's result is specified for the operand 0, and for every other while `TV = 1` (R213, R236). -/
theorem specifiedAt_log2_iff (a : Word) (tv : Bool) : (Instr.log2 a).specifiedAt tv = true ↔ a = 0 ∨ tv = true := by
  rw [Instr.specifiedAt, Bool.or_eq_true, beq_iff_eq]

/-! ## What is answered -/

/-- A result word that is determined draws no free value. -/
theorem answer_some_keeps_freeCount {s t : State} {v : Word} (h : s.answer (some v) = .next t) :
    t.freeCount = s.freeCount := by
  cases h
  rfl

/-- A completion draws no free value. -/
theorem complete_keeps_freeCount {s t : State} (h : s.complete = .next t) : t.freeCount = s.freeCount := by
  obtain rfl := State.complete_cases h
  rfl

/-- Where the result is specified no free value is drawn (R211): every table element that is read is defined. -/
theorem exec_keeps_freeCount {i : Instr} {s t : State} (hi : i.specifiedAt s.tv = true) (h : exec i s = .next t) :
    t.freeCount = s.freeCount := by
  cases i with
  | rmul | rmla | rmls | i2f | f2i | fl2f => exact answer_some_keeps_freeCount h
  | init => exact complete_keeps_freeCount (s := s.loadTables) h
  | rand => exact answer_some_keeps_freeCount (s := s.setRng (lcgNext s.rng)) h
  | seed a => exact complete_keeps_freeCount (s := s.setRng a) h
  | sine a =>
    rw [exec_sine, sineResult_of_tv hi] at h
    exact answer_some_keeps_freeCount h
  | window a =>
    rw [exec_window, windowResult_of_tv hi] at h
    exact answer_some_keeps_freeCount h
  | mtof a =>
    rw [exec_mtof, mtofResult_of_tv hi (by decide) (by decide)] at h
    exact answer_some_keeps_freeCount h
  | mtofx a =>
    rw [exec_mtofx, mtofResult_of_tv hi (by decide) (by decide)] at h
    exact answer_some_keeps_freeCount h
  | log2 a =>
    by_cases ha : a = 0
    · rw [exec_log2, ha, log2Result_zero] at h
      exact answer_some_keeps_freeCount h
    · have htv := ((specifiedAt_log2_iff a s.tv).mp hi).resolve_left ha
      rw [exec_log2, log2Result_of_tv htv ha] at h
      exact answer_some_keeps_freeCount h

/-- Where the result is not specified and the operation is not FL2F, it is a table read while `TV = 0`, which gives a free word
(R211, R236; log 4). -/
theorem exec_of_not_specifiedAt {i : Instr} {s : State} (hi : i.specifiedAt s.tv = false) (hfl2f : ∀ a, i ≠ .fl2f a) :
    s.tv = false ∧ exec i s = .next s.respondFree := by
  cases i with
  | rmul | rmla | rmls | init | i2f | f2i | rand | seed => cases hi
  | fl2f a => exact absurd rfl (hfl2f a)
  | sine a => exact ⟨hi, by rw [exec_sine, sineResult_of_not_tv hi, State.answer_none]⟩
  | window a => exact ⟨hi, by rw [exec_window, windowResult_of_not_tv hi, State.answer_none]⟩
  | mtof a => exact ⟨hi, by rw [exec_mtof, mtofResult_of_not_tv hi, State.answer_none]⟩
  | mtofx a => exact ⟨hi, by rw [exec_mtofx, mtofResult_of_not_tv hi, State.answer_none]⟩
  | log2 a =>
    obtain ⟨ha, hnot⟩ := not_or.mp (mt (specifiedAt_log2_iff a s.tv).mpr (Bool.eq_false_iff.mp hi))
    have htv := Bool.eq_false_iff.mpr hnot
    exact ⟨htv, by rw [exec_log2, log2Result_of_not_tv htv ha, State.answer_none]⟩

/-! ## The statements -/

/-- Settles O52: FL2F by `floatInRange_eq_isSome`, every other operation by `exec_keeps_freeCount` where its result is specified and
by `exec_of_not_specifiedAt` where it is not. -/
theorem freeExactlyWhereUnspecified : Obligations.FreeExactlyWhereUnspecified := by
  refine fun i s t h => ⟨fun hi => ⟨exec_keeps_freeCount hi h, ?_⟩, fun hi => ?_⟩
  · rintro a rfl
    obtain ⟨r, hr⟩ := Option.isSome_iff_exists.mp ((floatInRange_eq_isSome a).symm.trans hi)
    rw [exec_fl2f_of_some hr] at h
    cases h
    exact ⟨r, hr, rfl⟩
  · by_cases hfl2f : ∃ a, i = .fl2f a
    · obtain ⟨a, rfl⟩ := hfl2f
      have hsome : (fl2f a).isSome = false := (floatInRange_eq_isSome a).symm.trans hi
      have hnone : fl2f a = none := Option.not_isSome_iff_eq_none.mp (Bool.eq_false_iff.mp hsome)
      rw [exec_fl2f_of_none hnone] at h
      cases h
      exact .inr ⟨a, rfl, hnone, rfl⟩
    · obtain ⟨htv, hexec⟩ := exec_of_not_specifiedAt hi (not_exists.mp hfl2f)
      rw [hexec] at h
      cases h
      exact .inl ⟨htv, not_exists.mp hfl2f, rfl⟩

/-- Settles O8, by `step_of_idle`. -/
theorem idleKeepsAllState : Obligations.IdleKeepsAllState := fun _ => step_of_idle

end Sys2Proof.Proofs
end

section
/-! PROOFS of the statements about reset and hazards (spec/70_reset_and_hazards.md): what a reset request restores, what is answered
before INIT, which commands may be reordered, and the runs that keep the duties. -/

namespace Sys2Proof.Proofs

open Sys2Proof Sys2Proof.Machine

/-! ## Table readers before INIT -/

/-- LOG2 of a non-zero operand is a table reader too (R213, R236). -/
theorem not_specifiedAt_log2 {tv : Bool} (htv : tv = false) {a : Word} (ha : a ≠ 0) :
    (Instr.log2 a).specifiedAt tv = false := by
  rw [Bool.eq_false_iff, ne_eq, specifiedAt_log2_iff, not_or]
  exact ⟨ha, Bool.eq_false_iff.mp htv⟩

/-- `exec_of_not_specifiedAt` with the state after written out: some word, and the counter of free values (R236; logs 4, 6). -/
theorem exec_reader_answers_word {i : Instr} {s : State} (hi : i.specifiedAt s.tv = false) (hfl2f : ∀ a, i ≠ .fl2f a) :
    ∃ w, exec i s = .next { s with response := .result w, freeCount := s.freeCount + 1 } := by
  obtain ⟨-, hexec⟩ := exec_of_not_specifiedAt hi hfl2f
  exact ⟨Config.freeWord s.freeCount, hexec⟩

/-! ## States that differ in their tables only -/

/-- `s` with the tables of `u`. -/
def withTablesOf (s u : State) : State :=
  { s with sinet := u.sinet, sine2t := u.sine2t, windowt := u.windowt, pitcht := u.pitcht, expt := u.expt, logt := u.logt }

theorem answer_withTablesOf {s t : State} {x : Option Word} (h : s.answer x = .next t) (u : State) :
    (withTablesOf s u).answer x = .next (withTablesOf t u) := by
  obtain ⟨v, rfl, rfl⟩ | ⟨rfl, rfl⟩ := State.answer_cases h <;> rfl

theorem complete_withTablesOf {s t : State} (h : s.complete = .next t) (u : State) :
    (withTablesOf s u).complete = .next (withTablesOf t u) := by
  obtain rfl := State.complete_cases h
  rfl

/-- INIT overwrites every table (R121). -/
theorem exec_init_withTablesOf (s u : State) : exec .init (withTablesOf s u) = exec .init s := rfl

theorem exec_reader_withTablesOf {i : Instr} {s t : State} (h : exec i s = .next t) (hi : i.specifiedAt s.tv = false)
    (hfl2f : ∀ a, i ≠ .fl2f a) (u : State) : exec i (withTablesOf s u) = .next (withTablesOf t u) := by
  obtain ⟨-, hexec⟩ := exec_of_not_specifiedAt hi hfl2f
  obtain ⟨-, hexec'⟩ := exec_of_not_specifiedAt (s := withTablesOf s u) hi hfl2f
  rw [hexec] at h
  cases h
  exact hexec'

/-- While `TV = 0` an operation other than INIT does the same over any tables (R232): a table reader gives a free word, and no
other operation looks at a table. -/
theorem exec_withTablesOf {i : Instr} {s t : State} (htv : s.tv = false) (hi : i ≠ .init) (h : exec i s = .next t)
    (u : State) : exec i (withTablesOf s u) = .next (withTablesOf t u) := by
  cases i with
  | init => exact absurd rfl hi
  | rmul | rmla | rmls | i2f | f2i | fl2f => exact answer_withTablesOf (x := some _) h u
  | rand => exact answer_withTablesOf (s := s.setRng (lcgNext s.rng)) (x := some _) h u
  | seed a => exact complete_withTablesOf (s := s.setRng a) h u
  | sine | window | mtof | mtofx => exact exec_reader_withTablesOf h htv nofun u
  | log2 a =>
    by_cases ha : a = 0
    · rw [exec_log2, ha, log2Result_zero] at h ⊢
      exact answer_withTablesOf h u
    · exact exec_reader_withTablesOf h (not_specifiedAt_log2 htv ha) nofun u

/-! ## Commands over loaded tables -/

theorem exec_keeps_loadedFrom {c : TableConfig} {i : Instr} {s t : State} (hs : LoadedFrom c s) (h : exec i s = .next t) :
    LoadedFrom c t where
  tv := exec_keeps_tv hs.tv h
  tables := exec_keeps_tablesLoaded hs.tables h
  cfg := (exec_keeps_cfg h).trans hs.cfg

/-- While `TV = 1` no free value is drawn: FL2F out of range takes its operand's own (R211; logs 5, 6). -/
theorem exec_keeps_freeCount_of_tv {i : Instr} {s t : State} (htv : s.tv = true) (h : exec i s = .next t) :
    t.freeCount = s.freeCount := by
  cases hi : i.specifiedAt s.tv with
  | true => exact exec_keeps_freeCount hi h
  | false =>
    obtain ⟨-, hfree⟩ := freeExactlyWhereUnspecified i s t h
    obtain ⟨hnot, -⟩ | ⟨a, -, -, rfl⟩ := hfree hi
    · cases htv.symm.trans hnot
    · rfl

/-- Over loaded tables an operation that does not touch the generator does nothing but respond: INIT loads what is there
already, and no free value is drawn. -/
theorem exec_eq_respond {c : TableConfig} {i : Instr} {s t : State} (hi : i.touchesGenerator = false) (hs : LoadedFrom c s)
    (h : exec i s = .next t) : t = s.respond t.response := by
  have hcount := exec_keeps_freeCount_of_tv hs.tv h
  obtain ⟨-, rfl⟩ | ⟨rfl, -⟩ | ⟨a, rfl, -⟩ | ⟨-, -, ⟨v, rfl⟩ | rfl⟩ := exec_cases h
  · rw [loadTables_of_loaded hs.tv hs.tables, State.respond_response]
  · cases hi
  · cases hi
  · rw [State.respond_response]
  · exact absurd hcount (Nat.succ_ne_self s.freeCount)

/-- Such an operation gives one and the same response over all states loaded from `c` (R242). -/
theorem exists_response_of_not_touchesGenerator (c : TableConfig) {i : Instr} (hi : i.touchesGenerator = false) :
    ∃ r : Response, ∀ s, LoadedFrom c s → exec i s = .next (s.respond r) := by
  have hrand : i ≠ .rand := by
    rintro rfl
    cases hi
  obtain ⟨r, hr⟩ := answersAlike_of_ne_rand c hrand
  refine ⟨r, fun s hs => ?_⟩
  obtain ⟨t, ht, rfl⟩ := hr s hs
  rw [ht, ← exec_eq_respond hi hs ht]

/-- What `Obligations.CommandsCommute` says of two commands in one state. -/
def CommuteAt (s : State) (i j : Instr) : Prop :=
  ∃ si sij sj sji : State, exec i s = .next si ∧ exec j si = .next sij ∧ exec j s = .next sj ∧ exec i sj = .next sji ∧
    si.response = sji.response ∧ sij.response = sj.response ∧
    { sij with response := .none } = { sji with response := .none }

theorem CommuteAt.symm {s : State} {i j : Instr} (h : CommuteAt s i j) : CommuteAt s j i := by
  obtain ⟨si, sij, sj, sji, hi, hij, hj, hji, hri, hrj, hstate⟩ := h
  exact ⟨sj, sji, si, sij, hj, hji, hi, hij, hrj.symm, hri.symm, hstate.symm⟩

/-- A command that only responds may change places with any other, since no operation reads the last response (R20). -/
theorem commuteAt_of_not_touchesGenerator {c : TableConfig} {i : Instr} {s : State} (hi : i.touchesGenerator = false)
    (hs : LoadedFrom c s) (j : Instr) : CommuteAt s i j := by
  obtain ⟨r, hr⟩ := exists_response_of_not_touchesGenerator c hi
  obtain ⟨sj, hj, -⟩ := everyOperationResponds j s
  have hij : exec j (s.respond r) = .next sj := (exec_respond j s r).trans hj
  have hji : exec i sj = .next (sj.respond r) := hr sj (exec_keeps_loadedFrom hs hj)
  exact ⟨s.respond r, sj, sj, sj.respond r, hr s hs, hij, hj, hji, rfl, rfl, rfl⟩

/-! ## Requests that keep the duties -/

/-- A command keeps the duties when its packet is legal and its result specified (R240). -/
theorem isSafe_command_iff (tv : Bool) (p : Packet) :
    (Request.command p).isSafe tv = true ↔ ∃ i, decode p = .ok i ∧ i.specifiedAt tv = true := by
  cases hp : decode p <;> simp [Request.isSafe, hp]

/-- `tvAfter` reads off the packet what its instruction does to `TV` (R30). -/
theorem tv_eq_tvAfter {p : Packet} {i : Instr} {s t : State} (hp : decode p = .ok i) (h : exec i s = .next t) :
    t.tv = (Request.command p).tvAfter s.tv := by
  obtain ⟨rfl, rfl⟩ | ⟨hi, g, r, n, rfl⟩ := exec_init_or_frame h
  · simp [Request.tvAfter, hp]
  · simp [Request.tvAfter, hp, hi]

/-- What a step does that serves the safe request `r` from `s` and leaves `rest`. -/
structure ServedSafely (s : State) (r : Request) (rest : List Request) (t : State) : Prop where
  freeCount : t.freeCount = s.freeCount
  stream : t.stream = rest
  tv : t.tv = r.tvAfter s.tv
  fl2f : ∀ p a, r = .command p → decode p = .ok (.fl2f a) → ∃ v, fl2f a = some v ∧ t.response = .result v

theorem servedSafely_reset (s : State) (rest : List Request) :
    ServedSafely s .reset rest (s.withStream rest).takeReset where
  freeCount := rfl
  stream := rfl
  tv := rfl
  fl2f := nofun

theorem servedSafely_command {s t : State} {p : Packet} {i : Instr} {rest : List Request} (hp : decode p = .ok i)
    (hi : i.specifiedAt s.tv = true) (h : exec i (s.withStream rest) = .next t) :
    ServedSafely s (.command p) rest t where
  freeCount := exec_keeps_freeCount (s := s.withStream rest) hi h
  stream := exec_keeps_stream h
  tv := tv_eq_tvAfter (s := s.withStream rest) hp h
  fl2f := by
    rintro _ a ⟨⟩ ha
    obtain rfl : i = .fl2f a := Except.ok.inj (hp.symm.trans ha)
    obtain ⟨hspec, -⟩ := freeExactlyWhereUnspecified _ _ t h
    obtain ⟨-, hresult⟩ := hspec hi
    exact hresult a rfl

/-- A safe request is served (R240). -/
theorem exists_servedSafely {s : State} {r : Request} {rest : List Request} (hs : s.stream = r :: rest)
    (hr : r.isSafe s.tv = true) : ∃ t, step s = .next t ∧ ServedSafely s r rest t := by
  cases r with
  | reset => exact ⟨_, step_of_reset hs, servedSafely_reset s rest⟩
  | command p =>
    obtain ⟨i, hp, hi⟩ := (isSafe_command_iff s.tv p).mp hr
    obtain ⟨t, ht, -⟩ := everyOperationResponds i (s.withStream rest)
    exact ⟨t, (step_of_command hs hp).trans ht, servedSafely_command hp hi ht⟩

/-- One step of a run that keeps the duties: it draws no free value, and the requests behind it keep them still. -/
theorem exists_step_of_dutiesKept {s : State} {k : Nat} (h : dutiesKept s.tv (s.stream.take (k + 1)) = true) :
    ∃ t, step s = .next t ∧ t.freeCount = s.freeCount ∧ dutiesKept t.tv (t.stream.take k) = true := by
  match hs : s.stream with
  | [] =>
    refine ⟨s, step_of_idle hs, rfl, ?_⟩
    rw [hs, List.take_nil, dutiesKept]
  | r :: rest =>
    rw [hs, List.take_succ_cons, dutiesKept, Bool.and_eq_true] at h
    obtain ⟨hr, hrest⟩ := h
    obtain ⟨t, ht, hserved⟩ := exists_servedSafely hs hr
    refine ⟨t, ht, hserved.freeCount, ?_⟩
    rw [hserved.tv, hserved.stream]
    exact hrest

/-- A run over requests that keep the duties serves them all (R240), by induction on its length. -/
theorem run_of_dutiesKept {k : Nat} {s : State} (h : dutiesKept s.tv (s.stream.take k) = true) :
    ∃ t : State, Sys2Proof.core.run k s = .next t ∧ t.freeCount = s.freeCount ∧ t.stream = s.stream.drop k := by
  induction k generalizing s with
  | zero => exact ⟨s, rfl, rfl, rfl⟩
  | succ k ih =>
    obtain ⟨u, hu, hcount, hduties⟩ := exists_step_of_dutiesKept h
    obtain ⟨t, hrun, hcount', hstream⟩ := ih hduties
    refine ⟨t, (run_succ_of_step hu k).trans hrun, hcount'.trans hcount, ?_⟩
    rw [hstream, step_stream hu, List.drop_tail]

/-! ## The statements -/

/-- Settles O55: one of the two commands only responds, and `commuteAt_of_not_touchesGenerator` lets it change places. -/
theorem commandsCommute : Obligations.CommandsCommute := by
  intro i j s htv hloaded htouch
  have hs : LoadedFrom s.cfg s := ⟨htv, hloaded, rfl⟩
  rcases htouch with hi | hj
  · exact commuteAt_of_not_touchesGenerator hi hs j
  · exact (commuteAt_of_not_touchesGenerator hj hs i).symm

/-- Settles O56: the step by `exists_servedSafely`, the run by `run_of_dutiesKept`. -/
theorem safeRunsAreSpecified : Obligations.SafeRunsAreSpecified := by
  refine ⟨fun s r rest hs hr => ?_, fun k s h => run_of_dutiesKept h⟩
  obtain ⟨t, ht, hserved⟩ := exists_servedSafely hs hr
  exact ⟨t, ht, hserved.freeCount, hserved.stream, hserved.tv, hserved.fl2f⟩

/-- Settles O23: INIT answers one state, and every other operation states that differ in their tables only. -/
theorem tablesUnobservedBeforeInit : Obligations.TablesUnobservedBeforeInit := by
  intro i s s' htv hs'
  have htables : s' = withTablesOf s s' := hs'
  obtain ⟨t, ht, -⟩ := everyOperationResponds i s
  by_cases hi : i = .init
  · subst hi
    have ht' : exec .init s' = .next t := by rw [htables, exec_init_withTablesOf, ht]
    exact ⟨t, t, ht, ht', rfl, rfl, rfl, rfl, fun _ => rfl⟩
  · have ht' := exec_withTablesOf htv hi ht s'
    rw [← htables] at ht'
    exact ⟨t, withTablesOf t s', ht, ht', rfl, rfl, rfl, rfl, fun hinit => absurd hinit hi⟩

/-- Settles O22, by `exec_reader_answers_word`. -/
theorem tableReadersBeforeInit : Obligations.TableReadersBeforeInit := by
  intro s htv a
  exact ⟨exec_reader_answers_word htv nofun, exec_reader_answers_word htv nofun,
    exec_reader_answers_word htv nofun, exec_reader_answers_word htv nofun,
    fun ha => exec_reader_answers_word (not_specifiedAt_log2 htv ha) nofun⟩

/-- Settles O49: a reset request puts `SEED0` back, and the word after it is evaluated. -/
theorem resetValueOfGenerator : Obligations.ResetValueOfGenerator := by
  have hnext : lcgNext Config.seed0 = 0xEEF79411 := by decide
  refine ⟨State.reset_rng, by rw [State.reset_rng]; decide, fun s rest hs => ?_⟩
  exact ⟨_, _, step_of_reset hs, State.takeReset_rng _, exec_rand_next _, congrArg Response.result hnext⟩

/-- Settles O50, by `step_of_reset` and what `takeReset` does to each field. -/
theorem resetRestoresInitialState : Obligations.ResetRestoresInitialState := by
  refine ⟨State.reset_tv, fun s rest hs => ?_⟩
  exact ⟨_, step_of_reset hs, State.takeReset_rng _, State.takeReset_tv _, State.takeReset_cfg _,
    State.takeReset_stream _, State.takeReset_freeCount _⟩

end Sys2Proof.Proofs
end
